-- ==== Sys2Proof/Word.lean ====
section
/-! DEFINITION. The widths of the TLPB's values (spec 00_scope.md R7, 30_encoding.md R55). -/

namespace Sys2Proof

/-- A command word or a response word (R55: 32 bits, fixed). -/
abbrev Word := BitVec 32

/-- A 16-bit value: an operand, a raw sample, an offset, a data item, the cursor (R7). -/
abbrev Half := BitVec 16

/-- One byte on the two-wire bus; also the configuration byte (R7 `CFG_W`). -/
abbrev Byte := BitVec 8

/-- A 7-bit device address (R7 `DEV_ADDR_W`). -/
abbrev Addr7 := BitVec 7

/-- A resolution code, 2 bits (R7 `N_RES`, R23). -/
abbrev ResCode := BitVec 2

end Sys2Proof
end

