-- ==== Sys2Proof/Config.lean ====
section
/-! DEFINITION. The parameters the spec leaves OPEN (00_scope.md R8, 92_eei_decisions.md D14): constants with no
value in Lean, so that nothing can be proved from one. DESIGN CHOICE: each is a whole number, a domain the spec gives
for none of them; a fractional latency is excluded (log entry 6). The fourth parameter, `TRIG_UPDATES_CACHE`, has a default
and two readings the spec both describes; it is the strap `State.trigUpdatesCache` (log entry 7). -/

namespace Sys2Proof

/-- `T_BUS`: the `timeout` argument of every transmit and receive (R8, R79). OPEN: no value and no unit in the
spec. DESIGN CHOICE: a whole number, in no unit (log entry 6). -/
opaque Config.tBus : Nat

/-- `T_CONV[r]`: the conversion latency of resolution r, in ms (R8, R85). OPEN: no value, and no order between
the four, in the spec. DESIGN CHOICE: a whole number of ms (log entry 6). -/
opaque Config.tConv : ResCode → Nat

/-- `T_WR`: the memory device's write-cycle delay (R8, R102). OPEN: no value in the spec; a wait is in
ms (R14). DESIGN CHOICE: a whole number of ms (log entry 6). -/
opaque Config.tWr : Nat

end Sys2Proof
end

