-- ==== Sys2Proof/Syntax.lean ====
section
/-! DEFINITION. The nine commands of the TLPB (spec 30_encoding.md R57, spec/opcode_table.json), each with the
operands R58 and R59 give it. -/

namespace Sys2Proof

/-- One constructor per row of the opcode table. A `nodst` operand is command bit 4: true models the source's
absent output destination (R59). -/
inductive Instr where
  /-- OP 0x0, TS_INIT (R93): construct the TSU for the sensor at a 7-bit address. -/
  | tsInit (addr : Addr7)
  /-- OP 0x1, TS_WRCFG (R94): write the configuration byte. -/
  | tsWrcfg (cfg : Byte)
  /-- OP 0x2, TS_TRIG (R95): trigger a one-shot conversion. -/
  | tsTrig
  /-- OP 0x3, TS_RDRAW (R96): read the raw temperature. -/
  | tsRdraw (nodst : Bool)
  /-- OP 0x4, TS_CONV (R97): convert a raw sample. -/
  | tsConv (raw : Half)
  /-- OP 0x8, MEM_INIT (R101): construct the SMU for the memory device at a 7-bit address. -/
  | memInit (addr : Addr7)
  /-- OP 0x9, MEM_WRSEQ (R102): append one 16-bit value at the cursor. -/
  | memWrseq (data : Half)
  /-- OP 0xA, MEM_RDAT (R103): read the 16-bit item at an offset. -/
  | memRdat (address : Half) (nodst : Bool)
  /-- OP 0xB, MEM_CURSOR (R104): read the write cursor. -/
  | memCursor
  deriving DecidableEq, Repr

end Sys2Proof
end

