-- ==== Sys2Proof/WellFormed.lean ====
section
/-! DEFINITION. Which commands are well formed (spec 30_encoding.md R58, R59, R60). The check is the spec's own
`legal`, on the four raw fields of a command word; an `Instr` meets it by the widths of its operands. -/

namespace Sys2Proof

/-- The fields of a command word as R56 lays them out, nothing checked yet. -/
structure RawCommand where
  /-- bits 31:16 -/
  operand : Half
  /-- bits 15:5, reserved -/
  rsv : BitVec 11
  /-- bit 4 -/
  nodst : Bool
  /-- bits 3:0 -/
  op : BitVec 4
  deriving DecidableEq, Repr

/-- R60's `legal`, case by case: the reserved bits are 0, the opcode is one of the nine, the operand bits it does
not take are 0, and `NODST` is 0 where it is not taken. -/
def RawCommand.wellFormed (c : RawCommand) : Bool :=
  if c.rsv ≠ 0 then false else
  match c.op.toNat with
  | 0x0 => !c.nodst && c.operand.extractLsb' 7 9 == 0
  | 0x8 => !c.nodst && c.operand.extractLsb' 7 9 == 0
  | 0x1 => !c.nodst && c.operand.extractLsb' 8 8 == 0
  | 0x2 => !c.nodst && c.operand == 0
  | 0xB => !c.nodst && c.operand == 0
  | 0x3 => c.operand == 0
  | 0x4 => !c.nodst
  | 0x9 => !c.nodst
  | 0xA => true
  | _ => false

/-- The operand values R58 lets an instruction take. The widths of `Instr`'s operands are exactly these, so the
check holds of every `Instr`; the ill-formed terms of this hardware are raw commands. -/
def Instr.wellFormed (i : Instr) : Bool :=
  match i with
  | .tsInit a => a.toNat ≤ 0x7F
  | .tsWrcfg v => v.toNat ≤ 0xFF
  | .tsTrig => true
  | .tsRdraw _ => true
  | .tsConv x => x.toNat ≤ 0xFFFF
  | .memInit a => a.toNat ≤ 0x7F
  | .memWrseq d => d.toNat ≤ 0xFFFF
  | .memRdat x _ => x.toNat ≤ 0xFFFF
  | .memCursor => true

end Sys2Proof
end

