-- ==== Sys2Proof/Decode.lean ====
section
/-! DEFINITION. The decoder and the encoder of command words (spec 30_encoding.md R56 to R61). A command word crosses
its port whole, so it has no byte order (20_memory.md R40). -/

namespace Sys2Proof

/-- `OPERAND`, bits 31:16 (R56). -/
def operandOf (w : Word) : Half := w.extractLsb' 16 16

/-- `RSV`, bits 15:5 (R56). -/
def rsvOf (w : Word) : BitVec 11 := w.extractLsb' 5 11

/-- `NODST`, bit 4 (R56). -/
def nodstOf (w : Word) : Bool := w.getLsbD 4

/-- `OP`, bits 3:0 (R56). -/
def opOf (w : Word) : BitVec 4 := w.extractLsb' 0 4

/-- A command word as its four fields (R56). -/
def rawOf (w : Word) : RawCommand :=
  { operand := operandOf w, rsv := rsvOf w, nodst := nodstOf w, op := opOf w }

/-- R60's `legal(w)`. -/
def legal (w : Word) : Bool := (rawOf w).wellFormed

/-- Why a word is illegal (R61 names the four causes). Each is answered ILLEGAL_COMMAND. -/
inductive DecodeError where
  /-- a nonzero `RSV` field -/
  | reservedBits
  /-- an `OP` of 0x5 to 0x7 or 0xC to 0xF -/
  | reservedOpcode
  /-- `NODST = 1` where the opcode does not take it -/
  | nodstNotTaken
  /-- nonzero bits of `OPERAND` that the opcode does not take -/
  | operandNotTaken
  deriving DecidableEq, Repr

/-- Refuse `NODST = 1` for an opcode that does not take it (R59). -/
def withoutNodst (w : Word) (k : Except DecodeError Instr) : Except DecodeError Instr :=
  if nodstOf w then .error .nodstNotTaken else k

/-- Refuse an operand with a bit set at position n or above (R58). -/
def withOperandBits (w : Word) (n : Nat) (k : Except DecodeError Instr) : Except DecodeError Instr :=
  if (operandOf w).toNat < 2 ^ n then k else .error .operandNotTaken

/-- The decoder (R60): total on the 32-bit words, every illegal word refused by the name of its cause. Which cause
is named when several hold is the model's choice (log entry 12): reserved bits, then the opcode, then `NODST`,
then the operand. -/
def decode (w : Word) : Except DecodeError Instr :=
  if rsvOf w ≠ 0 then .error .reservedBits else
  match (opOf w).toNat with
  | 0x0 => withoutNodst w (withOperandBits w 7 (.ok (.tsInit ((operandOf w).extractLsb' 0 7))))
  | 0x1 => withoutNodst w (withOperandBits w 8 (.ok (.tsWrcfg ((operandOf w).extractLsb' 0 8))))
  | 0x2 => withoutNodst w (withOperandBits w 0 (.ok .tsTrig))
  | 0x3 => withOperandBits w 0 (.ok (.tsRdraw (nodstOf w)))
  | 0x4 => withoutNodst w (.ok (.tsConv (operandOf w)))
  | 0x8 => withoutNodst w (withOperandBits w 7 (.ok (.memInit ((operandOf w).extractLsb' 0 7))))
  | 0x9 => withoutNodst w (.ok (.memWrseq (operandOf w)))
  | 0xA => .ok (.memRdat (operandOf w) (nodstOf w))
  | 0xB => withoutNodst w (withOperandBits w 0 (.ok .memCursor))
  | _ => .error .reservedOpcode

/-- The decoder's answer for a word whose bits are `w`, numbered as spec/opcode_table.json numbers them: every row
has 32 bits, so bits 31..0 of the word are bits 31..0 of `w`, and bits above `nbits` are 0. -/
def decodeTableWord (nbits w : Nat) : Option Instr :=
  match decode (BitVec.ofNat 32 (w % 2 ^ nbits)) with
  | .ok i => some i
  | .error _ => none

/-- The word `OPERAND ++ RSV ++ NODST ++ OP` with `RSV = 0` (R56). -/
def commandWord (operand : Half) (nodst : Bool) (op : BitVec 4) : Word :=
  operand ++ (0 : BitVec 11) ++ BitVec.ofBool nodst ++ op

/-- The encoder: each command's word, from the opcode map R57 and the operand column of R58. -/
def encode (i : Instr) : Word :=
  match i with
  | .tsInit a => commandWord (a.setWidth 16) false 0x0
  | .tsWrcfg v => commandWord (v.setWidth 16) false 0x1
  | .tsTrig => commandWord 0 false 0x2
  | .tsRdraw nd => commandWord 0 nd 0x3
  | .tsConv x => commandWord x false 0x4
  | .memInit a => commandWord (a.setWidth 16) false 0x8
  | .memWrseq d => commandWord d false 0x9
  | .memRdat x nd => commandWord x nd 0xA
  | .memCursor => commandWord 0 false 0xB

/-- One row of spec/opcode_table.json: a word belongs to it when `w & mask = pattern`. -/
structure TableRow where
  mnemonic : String
  pattern : Word
  mask : Word
  deriving DecidableEq, Repr

/-- Does the word match the row (R60)? -/
def TableRow.accepts (r : TableRow) (w : Word) : Bool := w &&& r.mask == r.pattern

/-- spec/opcode_table.json, row by row. -/
def opcodeTable : List TableRow :=
  [ ⟨"TS_INIT", 0x00000000, 0xFF80FFFF⟩,
    ⟨"TS_WRCFG", 0x00000001, 0xFF00FFFF⟩,
    ⟨"TS_TRIG", 0x00000002, 0xFFFFFFFF⟩,
    ⟨"TS_RDRAW", 0x00000003, 0xFFFFFFEF⟩,
    ⟨"TS_CONV", 0x00000004, 0x0000FFFF⟩,
    ⟨"MEM_INIT", 0x00000008, 0xFF80FFFF⟩,
    ⟨"MEM_WRSEQ", 0x00000009, 0x0000FFFF⟩,
    ⟨"MEM_RDAT", 0x0000000A, 0x0000FFEF⟩,
    ⟨"MEM_CURSOR", 0x0000000B, 0xFFFFFFFF⟩ ]

/-- The table's mnemonic of a command. -/
def Instr.mnemonic (i : Instr) : String :=
  match i with
  | .tsInit _ => "TS_INIT"
  | .tsWrcfg _ => "TS_WRCFG"
  | .tsTrig => "TS_TRIG"
  | .tsRdraw _ => "TS_RDRAW"
  | .tsConv _ => "TS_CONV"
  | .memInit _ => "MEM_INIT"
  | .memWrseq _ => "MEM_WRSEQ"
  | .memRdat _ _ => "MEM_RDAT"
  | .memCursor => "MEM_CURSOR"

end Sys2Proof
end

