-- ==== Sys2Proof/Machine/State.lean ====
section
/-! DEFINITION. The state of the TLPB: its six registers, its hidden sequencing state, its command stream and response
port, and its bus-transport port (spec 10_state.md, 60_exceptions.md R124 to R127). All plain data. -/

namespace Sys2Proof.Machine

/-- Why the machine could stop with a fault. There is no way: the TLPB has no traps and every command word ends in
a response (R106, R116), and the one fault the spec names, reading a register that holds no value (R27), no
command can reach because UNINITIALISED is checked first (R108, log entry 1). So the type has no constructor and
nothing raises it. -/
inductive Fault where
  deriving DecidableEq, Repr

/-- Why an instruction has no meaning. -/
inductive Refusal where
  /-- The dispatch answers this for a command that has no meaning yet. Raised by no arm now. Safe: the machine
  stops where the hardware goes on. -/
  | notModelled (mnemonic : String)
  deriving DecidableEq, Repr

/-- The three OPEN durations, by name (R8). Holding the name and not a number keeps the state comparable;
`Duration.length` (Machine/Operands.lean) gives the parameter it stands for. -/
inductive Duration where
  /-- `T_BUS`, the timeout argument of every bus request (R79) -/
  | tBus
  /-- `T_CONV[r]`, the conversion latency of resolution r (R85) -/
  | tConv (r : ResCode)
  /-- `T_WR`, the memory's write-cycle delay (R102) -/
  | tWr
  deriving DecidableEq, Repr

/-- One request on the bus-transport port, as R73 writes it. -/
inductive Request where
  /-- `TX(a8, bytes, length, timeout)` -/
  | tx (a8 : Byte) (bytes : List Byte) (length : Nat) (timeout : Duration)
  /-- `RX(a8, length, timeout)` -/
  | rx (a8 : Byte) (length : Nat) (timeout : Duration)
  deriving DecidableEq, Repr

/-- What the Bus Transport will answer to one request: an input of the machine, free (R126). An OK answer carries
two bytes, because no receive asks for more (R78); a receive of length n is given the first n of them, a transmit
none, so every value of the type keeps the transport's duty of "exactly `length` bytes" (log entry 2). -/
inductive Answer where
  | ok (b0 b1 : Byte)
  | fail
  deriving DecidableEq, Repr

/-- An answer as it stands in the record of a run: the status, and exactly the bytes that crossed the port (R127). -/
inductive Reply where
  | ok (bytes : List Byte)
  | fail
  deriving DecidableEq, Repr

/-- What the record of a run holds besides the responses (R127): an answered bus request, or a wait that the delay
unit has ended. -/
inductive Event where
  | transfer (request : Request) (reply : Reply)
  | wait (t : Duration)
  deriving DecidableEq, Repr

/-- `STEP` while a bus request is outstanding (R30): the place in a command's pseudocode that waits for the answer,
with the pseudocode's local values that are still needed there. The request outstanding follows from it
(`Position.request`, Machine/Ops.lean). -/
inductive Position where
  /-- TS_INIT, F_CFG_PTR of its ReadCfg (R93) -/
  | tsInitPtr
  /-- TS_INIT, F_CFG_RD of its ReadCfg -/
  | tsInitRd
  /-- TS_WRCFG, F_CFG_WR of its operand v (R94) -/
  | tsWrcfgWr (v : Byte)
  /-- TS_TRIG, F_CFG_PTR of its ReadCfg (R95) -/
  | tsTrigPtr
  /-- TS_TRIG, F_CFG_RD of its ReadCfg -/
  | tsTrigRd
  /-- TS_TRIG, F_CFG_WR of w, the byte read with OS set -/
  | tsTrigWr (w : Byte)
  /-- TS_RDRAW, F_TEMP_PTR (R96) -/
  | tsRdrawPtr
  /-- TS_RDRAW, F_TEMP_RD -/
  | tsRdrawRd
  /-- MEM_WRSEQ, F_MEM_WR of its operand d at the cursor (R102) -/
  | memWrseqWr (d : Half)
  /-- MEM_RDAT, F_MEM_PTR of its operand a (R103) -/
  | memRdatPtr (a : Half)
  /-- MEM_RDAT, F_MEM_RD -/
  | memRdatRd
  deriving DecidableEq, Repr

/-- `PHASE`, with `CUR` and `STEP` where the phase has them (R30). -/
inductive Sequencer where
  /-- IDLE: no command in progress -/
  | idle
  /-- EXEC: the command word `cur` is in progress with no request or wait outstanding -/
  | exec (cur : Word)
  /-- BUS: a transport request of `cur` is outstanding, the command being at `pos` -/
  | bus (cur : Word) (pos : Position)
  /-- WAIT: `cur` has done all but its final `Wait(t)` -/
  | wait (cur : Word) (t : Duration)
  deriving DecidableEq, Repr

/-- The four values of `PHASE` (R30). -/
inductive Phase where
  | idle | exec | bus | wait
  deriving DecidableEq, Repr

/-- The state. The first six fields are the architectural registers of R20; no register has an alias or is
hard-wired (R19), and there are no flags (R29) and no memory (R35). -/
structure State where
  /-- `TS_VALID`: the TSU has been initialised -/
  tsValid : Bool
  /-- `TS_ADDR`: the sensor's device address (R22) -/
  tsAddr : Addr7
  /-- `TS_RES`: the cached resolution code (R23) -/
  tsRes : ResCode
  /-- `MEM_VALID`: the SMU has been initialised -/
  memValid : Bool
  /-- `MEM_ADDR`: the memory device's address (R24) -/
  memAddr : Addr7
  /-- `CURSOR`: the write cursor (R25) -/
  cursor : Half
  /-- `CMD_IDX`: the index of the next command in the host's stream (R21) -/
  cmdIdx : Nat
  /-- `PHASE`, `CUR` and `STEP` (R30) -/
  sequencer : Sequencer
  /-- the host's command stream, all of it; the word at `CMD_IDX` is issued next (R21, R127) -/
  stream : List Word
  /-- the response words delivered so far, oldest first (R125, R127) -/
  responses : List Word
  /-- what the Bus Transport will answer, next answer first; an input, free (R126, log entry 2) -/
  answers : List Answer
  /-- the bus requests with their answers, and the waits ended, oldest first (R127) -/
  trace : List Event
  /-- the strap `TRIG_UPDATES_CACHE` (R8, R95): a parameter, written by no step (log entry 7) -/
  trigUpdatesCache : Bool
  deriving DecidableEq, Repr

/-- `PHASE` (R30). -/
def State.phase (s : State) : Phase :=
  match s.sequencer with
  | .idle => .idle
  | .exec _ => .exec
  | .bus _ _ => .bus
  | .wait _ _ => .wait

/-- `CUR` (R30): the command word in progress, if one is. -/
def State.cur (s : State) : Option Word :=
  match s.sequencer with
  | .idle => none
  | .exec c => some c
  | .bus c _ => some c
  | .wait c _ => some c

/-- The machine after power-on reset (R34, R129, R130): both valid bits 0, `PHASE = IDLE`, `CMD_IDX = 0`, no request
and no wait. The spec gives `TS_ADDR`, `TS_RES`, `MEM_ADDR` and `CURSOR` no value; they are 0 here (log entry 1,
DESIGN CHOICE). The inputs and the record are empty (log entry 8), and the strap has the spec's default (R8). -/
def State.reset : State :=
  { tsValid := false, tsAddr := 0, tsRes := 0,
    memValid := false, memAddr := 0, cursor := 0,
    cmdIdx := 0, sequencer := .idle,
    stream := [], responses := [], answers := [], trace := [],
    trigUpdatesCache := true }

end Sys2Proof.Machine
end

