-- ==== Sys2Proof/Machine/Flags.lean ====
section
/-! DEFINITION. The fields of the sensor's configuration byte (spec 30_encoding.md R66, R67). The TLPB has no flags of its
own; SD and OS of this byte are the only flag bits a command reads or sets (10_state.md R29). -/

namespace Sys2Proof.Machine

/-- SD, bit 0: 1 is shutdown mode, 0 continuous mode (R66). -/
def shutdownFlag (cfg : Byte) : Bool := cfg.getLsbD 0

/-- OS, bit 7: the one-shot trigger (R66). -/
def oneShotFlag (cfg : Byte) : Bool := cfg.getLsbD 7

/-- `resOf(cfg)`: bits 6..5, bit 5 least significant (R67). -/
def resOf (cfg : Byte) : ResCode := cfg.extractLsb' 5 2

/-- The byte TS_TRIG writes back: OS set, every other bit kept (R95). -/
def withOneShot (cfg : Byte) : Byte := cfg ||| 0x80

end Sys2Proof.Machine
end

