-- ==== Sys2Proof/Machine/Operands.lean ====
section
/-! DEFINITION. The pure data path: address bytes and byte order (spec 40_bus_framer.md R74 to R76, 30_encoding.md R70),
the resolution decoder (41_temperature_sensor.md R85 to R92), the cursor increment unit (42_sequential_memory.md
R99) and the values of the durations. -/

namespace Sys2Proof.Machine

/-- `WA(a7)`: the write address byte (R74). -/
def writeAddress (a7 : Addr7) : Byte := a7 ++ (0 : BitVec 1)

/-- `RA(a7)`: the read address byte (R75). -/
def readAddress (a7 : Addr7) : Byte := a7 ++ (1 : BitVec 1)

/-- `split(v)`: the two bytes of a 16-bit value, the high byte first (R70). -/
def split (v : Half) : List Byte := [v.extractLsb' 8 8, v.extractLsb' 0 8]

/-- `merge(b0, b1)`: the 16-bit value whose high byte is the first byte on the bus (R70). -/
def merge (b0 b1 : Byte) : Half := b0 ++ b1

/-- The constants of R7 and R45. -/
def regTemp : Byte := 0x00
def regCfg : Byte := 0x01
def maxAddr : Half := 0x7FFF

/-- `SHIFT[r]` (R85). -/
def shiftAmount (r : ResCode) : Nat :=
  match r.toNat with
  | 0 => 7
  | 1 => 6
  | 2 => 5
  | _ => 4

/-- `SIGN[r]` (R85). -/
def signMask (r : ResCode) : Half :=
  match r.toNat with
  | 0 => 0x0200
  | 1 => 0x0400
  | 2 => 0x0800
  | _ => 0x1000

/-- `EXT[r]` (R85). -/
def extMask (r : ResCode) : Half :=
  match r.toNat with
  | 0 => 0xFE00
  | 1 => 0xFC00
  | 2 => 0xF800
  | _ => 0xF000

/-- `WEIGHT[r]`, in °C per count (R85), an exact rational (R90). -/
def weight (r : ResCode) : Rat :=
  match r.toNat with
  | 0 => 1 / 2
  | 1 => 1 / 4
  | 2 => 1 / 8
  | _ => 1 / 16

/-- `asr_16(v, k)`: the arithmetic right shift of R11, which R87 and 90_conflicts.md C1 settle on. -/
def asr16 (v : Half) (k : Nat) : Half := v.sshiftRight k

/-- `Decode(raw, r)` (R92): shift, then the sign stage with the literal masks (R87, R88). -/
def decodeSample (raw : Half) (r : ResCode) : Half :=
  let t1 := asr16 raw (shiftAmount r)
  if t1 &&& signMask r ≠ 0 then t1 ||| extMask r else t1

/-- Stage 3 (R90): the Celsius value of a count at a resolution code, exact. The block delivers the pair, not the
product (R64). -/
def celsius (v : Half) (r : ResCode) : Rat := v.toInt * weight r

/-- `NextCursor(c)` (R99). Off its domain (c above 0x7FFF, which the cursor never holds, R100) this is the first
of the two closed forms the spec allows (log entry 15). -/
def nextCursor (c : Half) : Half := if c = maxAddr then 0 else c + 1

/-- The number a duration stands for: an OPEN parameter (R8). That it is a whole number is the model's choice (log
entry 6). -/
def Duration.length (t : Duration) : Nat :=
  match t with
  | .tBus => Config.tBus
  | .tConv r => Config.tConv r
  | .tWr => Config.tWr

end Sys2Proof.Machine
end

