-- ==== Sys2Proof/Machine/Ops.lean ====
section
/-! DEFINITION. The named operations every command is built from: register writes, the response port (spec 60_exceptions.md
R125, 30_encoding.md R62 to R64), the checks (R108), the framer (40_bus_framer.md) and the delay unit (R119). The
TLPB takes no exceptions and returns from none (R106, R116); `State.raise` is its one error operation. -/

namespace Sys2Proof.Machine

/-! ### Register writes (R12) -/

def State.setTsValid (s : State) (v : Bool) : State := { s with tsValid := v }
def State.setTsAddr (s : State) (v : Addr7) : State := { s with tsAddr := v }
def State.setTsRes (s : State) (v : ResCode) : State := { s with tsRes := v }
def State.setMemValid (s : State) (v : Bool) : State := { s with memValid := v }
def State.setMemAddr (s : State) (v : Addr7) : State := { s with memAddr := v }
def State.setCursor (s : State) (v : Half) : State := { s with cursor := v }
def State.setSequencer (s : State) (q : Sequencer) : State := { s with sequencer := q }

/-! ### The inputs: the transport's answers (R126), the host's commands (R124) and the strap (R8) -/

def State.setAnswers (s : State) (v : List Answer) : State := { s with answers := v }
def State.setStream (s : State) (v : List Word) : State := { s with stream := v }
def State.setStrap (s : State) (v : Bool) : State := { s with trigUpdatesCache := v }

/-! ### The response port -/

/-- The outcomes of a command (R63). -/
inductive Status where
  | ok | transportError | invalidArgument | deviceNotReady | uninitialised | illegalCommand
  deriving DecidableEq, Repr

/-- `STATUS` (R63). Codes 4 and 5 are never produced. -/
def Status.code (t : Status) : BitVec 3 :=
  match t with
  | .ok => 0
  | .transportError => 1
  | .invalidArgument => 2
  | .deviceNotReady => 3
  | .uninitialised => 6
  | .illegalCommand => 7

/-- The response word `DATA ++ RSV ++ RES ++ DV ++ STATUS` with `RSV = 0` (R62). -/
def responseWord (data : Half) (res : ResCode) (dv : Bool) (status : Status) : Word :=
  data ++ (0 : BitVec 10) ++ res ++ BitVec.ofBool dv ++ status.code

/-- Response delivery (R125): the word is delivered, `PHASE <- IDLE`, `CMD_IDX <- CMD_IDX + 1`. -/
def State.deliver (s : State) (r : Word) : State :=
  { s with responses := s.responses ++ [r], sequencer := .idle, cmdIdx := s.cmdIdx + 1 }

/-- `done()`: status OK and no data (R16, R64). -/
def State.done (s : State) : State := s.deliver (responseWord 0 0 false .ok)

/-- `done(d)`: status OK and the output value d (R16, R64). -/
def State.doneWith (s : State) (d : Half) : State := s.deliver (responseWord d 0 true .ok)

/-- `done(v) with RES = r`, TS_CONV's ending (R64, R97). -/
def State.doneCount (s : State) (v : Half) (r : ResCode) : State := s.deliver (responseWord v r true .ok)

/-- `raise E` (R16): the response carries the status alone, and nothing else of the command happens. -/
def State.raise (s : State) (e : Status) : State := s.deliver (responseWord 0 0 false e)

/-- `require TS_VALID` (R108). -/
def requireTs (k : State → State) (s : State) : State := if s.tsValid then k s else s.raise .uninitialised

/-- `require MEM_VALID` (R108). -/
def requireMem (k : State → State) (s : State) : State := if s.memValid then k s else s.raise .uninitialised

/-! ### The framer -/

/-- `Transmit(a8, s)` as a request (R77): its length is the number of bytes, its timeout `T_BUS` (R69, R79). -/
def transmit (a8 : Byte) (bytes : List Byte) : Request := .tx a8 bytes bytes.length .tBus

/-- `Receive(a8, n)` as a request (R78). -/
def receive (a8 : Byte) (n : Nat) : Request := .rx a8 n .tBus

/-- The frame builders of R80, one request each (R68). -/
def cfgPtr (s : State) : Request := transmit (writeAddress s.tsAddr) [regCfg]
def cfgRd (s : State) : Request := receive (readAddress s.tsAddr) 1
def cfgWr (s : State) (v : Byte) : Request := transmit (writeAddress s.tsAddr) [regCfg, v]
def tempPtr (s : State) : Request := transmit (writeAddress s.tsAddr) [regTemp]
def tempRd (s : State) : Request := receive (readAddress s.tsAddr) 2
def memWr (s : State) (c d : Half) : Request := transmit (writeAddress s.memAddr) (split c ++ split d)
def memPtr (s : State) (a : Half) : Request := transmit (writeAddress s.memAddr) (split a)
def memRd (s : State) : Request := receive (readAddress s.memAddr) 2

/-- The request outstanding at a position. The registers it is built from do not change while the command is
there, so it is the request that was issued. -/
def Position.request (p : Position) (s : State) : Request :=
  match p with
  | .tsInitPtr => cfgPtr s
  | .tsInitRd => cfgRd s
  | .tsWrcfgWr v => cfgWr s v
  | .tsTrigPtr => cfgPtr s
  | .tsTrigRd => cfgRd s
  | .tsTrigWr w => cfgWr s w
  | .tsRdrawPtr => tempPtr s
  | .tsRdrawRd => tempRd s
  | .memWrseqWr d => memWr s s.cursor d
  | .memRdatPtr a => memPtr s a
  | .memRdatRd => memRd s

/-- The reply a request gets from an answer: an OK receive exactly `length` bytes, an OK transmit none, a FAIL no
meaningful bytes (R73, R78, R126). -/
def Request.reply (q : Request) (a : Answer) : Reply :=
  match q, a with
  | _, .fail => .fail
  | .tx _ _ _ _, .ok _ _ => .ok []
  | .rx _ n _, .ok b0 b1 => .ok ([b0, b1].take n)

/-- The transport answers q with a: the exchange is recorded, and the sequencer goes on (`PHASE <- EXEC`, R77). -/
def State.answered (s : State) (cur : Word) (q : Request) (a : Answer) (rest : List Answer) : State :=
  { s with answers := rest, trace := s.trace ++ [.transfer q (q.reply a)], sequencer := .exec cur }

/-- Issue the request of position p and wait for its answer (R77, R78); k is the rest of the command. While the
transport has no answer, the command stays in BUS (R126). -/
def awaitAnswer (cur : Word) (p : Position) (k : Answer → State → State) (s : State) : State :=
  match s.answers with
  | [] => s.setSequencer (.bus cur p)
  | a :: rest => k a (s.answered cur (p.request s) a rest)

/-- The second half of `ReadCfg()` (R81): the byte read, or none after a FAIL. -/
def afterCfgRd (k : Option Byte → State → State) (a : Answer) (s : State) : State :=
  match a with
  | .ok b _ => k (some b) s
  | .fail => k none s

/-- The middle of `ReadCfg()` (R81): the 1-byte read is issued only when the pointer write was answered OK. -/
def afterCfgPtr (cur : Word) (rd : Position) (k : Option Byte → State → State) (a : Answer) (s : State) : State :=
  match a with
  | .ok _ _ => awaitAnswer cur rd (afterCfgRd k) s
  | .fail => k none s

/-- `ReadCfg()` (R81), with the command's two positions for its frames; k is the rest of the command. -/
def readCfg (cur : Word) (ptr rd : Position) (k : Option Byte → State → State) (s : State) : State :=
  awaitAnswer cur ptr (afterCfgPtr cur rd k) s

/-- The last step of a 2-byte read (R96, R103): the two bytes merged, the first one high, or TRANSPORT_ERROR. -/
def finishRead (a : Answer) (s : State) : State :=
  match a with
  | .ok b0 b1 => s.doneWith (merge b0 b1)
  | .fail => s.raise .transportError

/-- After a pointer write (R96, R103): the read is issued only when the pointer write was answered OK (R82). -/
def afterPtr (cur : Word) (rd : Position) (a : Answer) (s : State) : State :=
  match a with
  | .ok _ _ => awaitAnswer cur rd finishRead s
  | .fail => s.raise .transportError

/-! ### The delay unit -/

/-- `Wait(t)` begins (R14): the command has nothing left but the wait and its OK response (R31). -/
def State.beginWait (s : State) (cur : Word) (t : Duration) : State := s.setSequencer (.wait cur t)

/-- One event more in the record (R127). -/
def State.record (s : State) (e : Event) : State := { s with trace := s.trace ++ [e] }

/-- The delay unit's one step (R119): the wait ends, and the response is delivered (R31). -/
def State.endWait (s : State) (t : Duration) : State := (s.record (.wait t)).done

/-! ### The sequencer's own moves -/

/-- The host's move in IDLE (R30, R124): the word at `CMD_IDX` is issued and accepted, `PHASE <- EXEC`. With no word
there the TLPB waits (R131); the run is then over (R127). -/
def State.acceptNext (s : State) : State :=
  match s.stream[s.cmdIdx]? with
  | some w => s.setSequencer (.exec w)
  | none => s

/-- The refusal of an illegal word (R61, R109): the response ILLEGAL_COMMAND and nothing else. -/
def State.refuseIllegal (s : State) : State := s.raise .illegalCommand

end Sys2Proof.Machine
end

