-- ==== Sys2Proof/Machine/Smu.lean ====
section
/-! DEFINITION. The four commands of the sequential-memory unit (spec 42_sequential_memory.md R101 to R104). -/

namespace Sys2Proof.Machine

/-- MEM_INIT (R101): construct the SMU. No bus request; always ends OK. -/
def execMemInit (addr : Addr7) (s : State) : Host.Outcome State Fault Refusal :=
  .next (((s.setMemAddr addr).setCursor 0).setMemValid true).done

/-- MEM_WRSEQ after its frame (R102): on success the cursor advances and the write-cycle wait begins. -/
def memWrseqFinish (cur : Word) (a : Answer) (s : State) : State :=
  match a with
  | .ok _ _ => (s.setCursor (nextCursor s.cursor)).beginWait cur .tWr
  | .fail => s.raise .transportError

/-- MEM_WRSEQ (R102): append one 16-bit value at the cursor. -/
def execMemWrseq (data : Half) (s : State) : Host.Outcome State Fault Refusal :=
  .next (requireMem (awaitAnswer (encode (.memWrseq data)) (.memWrseqWr data)
    (memWrseqFinish (encode (.memWrseq data)))) s)

/-- MEM_RDAT (R103): read the 16-bit item at an offset. The argument check comes before any I/O (R110). -/
def execMemRdat (address : Half) (nodst : Bool) (s : State) : Host.Outcome State Fault Refusal :=
  .next (requireMem (fun s =>
    if maxAddr.toNat < address.toNat || nodst then s.raise .invalidArgument
    else awaitAnswer (encode (.memRdat address nodst)) (.memRdatPtr address)
      (afterPtr (encode (.memRdat address nodst)) .memRdatRd) s) s)

/-- MEM_CURSOR (R104): read the write cursor. No bus request and no wait. -/
def execMemCursor (s : State) : Host.Outcome State Fault Refusal :=
  .next (requireMem (fun s => s.doneWith s.cursor) s)

end Sys2Proof.Machine
end

