-- ==== Sys2Proof/Machine/Tsu.lean ====
section
/-! DEFINITION. The five commands of the temperature-sensor unit (spec 41_temperature_sensor.md R93 to R97). Each command's
own continuation after a bus answer stands before it. -/

namespace Sys2Proof.Machine

/-- TS_INIT after its configuration read (R93): the code read, or code 0 when the read failed (R114). -/
def tsInitFinish (cfg : Option Byte) (s : State) : State :=
  match cfg with
  | some b => ((s.setTsRes (resOf b)).setTsValid true).done
  | none => ((s.setTsRes 0).setTsValid true).done

/-- TS_INIT (R93): construct the TSU. Always ends OK. -/
def execTsInit (addr : Addr7) (s : State) : Host.Outcome State Fault Refusal :=
  .next (readCfg (encode (.tsInit addr)) .tsInitPtr .tsInitRd tsInitFinish (s.setTsAddr addr))

/-- TS_WRCFG after its frame (R94): the cache takes the byte written, or is left unchanged by a failure. -/
def tsWrcfgFinish (v : Byte) (a : Answer) (s : State) : State :=
  match a with
  | .ok _ _ => (s.setTsRes (resOf v)).done
  | .fail => s.raise .transportError

/-- TS_WRCFG (R94): write the configuration byte. -/
def execTsWrcfg (cfg : Byte) (s : State) : Host.Outcome State Fault Refusal :=
  .next (requireTs (awaitAnswer (encode (.tsWrcfg cfg)) (.tsWrcfgWr cfg) (tsWrcfgFinish cfg)) s)

/-- The cache update of TS_TRIG, made only with the strap `TRIG_UPDATES_CACHE` set (R95, 90_conflicts.md C3). -/
def refreshCache (w : Byte) (s : State) : State :=
  if s.trigUpdatesCache then s.setTsRes (resOf w) else s

/-- TS_TRIG after its write-back (R95): the optional cache update, then the wait of `TS_RES` as it then stands. -/
def tsTrigFinish (cur : Word) (w : Byte) (a : Answer) (s : State) : State :=
  match a with
  | .ok _ _ => (refreshCache w s).beginWait cur (.tConv (refreshCache w s).tsRes)
  | .fail => s.raise .transportError

/-- TS_TRIG after its configuration read (R95): SD is tested on the byte just read (90_conflicts.md C4), and the
byte goes back with OS set. -/
def tsTrigCheck (cur : Word) (cfg : Option Byte) (s : State) : State :=
  match cfg with
  | none => s.raise .transportError
  | some b =>
    if shutdownFlag b then
      awaitAnswer cur (.tsTrigWr (withOneShot b)) (tsTrigFinish cur (withOneShot b)) s
    else s.raise .deviceNotReady

/-- TS_TRIG (R95): trigger a one-shot conversion. -/
def execTsTrig (s : State) : Host.Outcome State Fault Refusal :=
  .next (requireTs (readCfg (encode .tsTrig) .tsTrigPtr .tsTrigRd (tsTrigCheck (encode .tsTrig))) s)

/-- TS_RDRAW (R96): read the raw temperature. The argument check comes before any I/O (R110). -/
def execTsRdraw (nodst : Bool) (s : State) : Host.Outcome State Fault Refusal :=
  .next (requireTs (fun s =>
    if nodst then s.raise .invalidArgument
    else awaitAnswer (encode (.tsRdraw nodst)) .tsRdrawPtr (afterPtr (encode (.tsRdraw nodst)) .tsRdrawRd) s) s)

/-- TS_CONV (R97): decode a raw sample with the cached resolution code. No bus request and no wait. -/
def execTsConv (raw : Half) (s : State) : Host.Outcome State Fault Refusal :=
  .next (requireTs (fun s => s.doneCount (decodeSample raw s.tsRes) s.tsRes) s)

end Sys2Proof.Machine
end

