-- ==== Sys2Proof/Machine/Sequencer.lean ====
section
/-! DEFINITION. How a command that was left in BUS goes on when its answer comes (spec 10_state.md R30, 40_bus_framer.md R77
and R78), and where a command word stands for the next step. -/

namespace Sys2Proof.Machine

/-- The rest of the command at a position, once its request is answered: the same continuation the command's own
meaning gave to `awaitAnswer` there. -/
def Position.rest (p : Position) (cur : Word) : Answer → State → State :=
  match p with
  | .tsInitPtr => afterCfgPtr cur .tsInitRd tsInitFinish
  | .tsInitRd => afterCfgRd tsInitFinish
  | .tsWrcfgWr v => tsWrcfgFinish v
  | .tsTrigPtr => afterCfgPtr cur .tsTrigRd (tsTrigCheck cur)
  | .tsTrigRd => afterCfgRd (tsTrigCheck cur)
  | .tsTrigWr w => tsTrigFinish cur w
  | .tsRdrawPtr => afterPtr cur .tsRdrawRd
  | .tsRdrawRd => finishRead
  | .memWrseqWr _ => memWrseqFinish cur
  | .memRdatPtr _ => afterPtr cur .memRdatRd
  | .memRdatRd => finishRead

/-- The transport's move in BUS (R77, R78, R126): with an answer the command goes on; without one nothing moves. -/
def State.resume (s : State) (cur : Word) (p : Position) : State := awaitAnswer cur p (p.rest cur) s

/-- The command stream with w at `CMD_IDX`, 0 words standing in for commands before it that the stream lacks. -/
def State.streamWith (s : State) (w : Word) : List Word :=
  s.stream.take s.cmdIdx ++ List.replicate (s.cmdIdx - s.stream.length) 0 ++ w :: s.stream.drop (s.cmdIdx + 1)

end Sys2Proof.Machine
end

