-- ==== Sys2Proof/Machine/Dispatch.lean ====
section
/-! DEFINITION. One arm per command: which definition is its meaning. -/

namespace Sys2Proof.Machine

def exec (i : Instr) (s : State) : Host.Outcome State Fault Refusal :=
  match i with
  | .tsInit addr => Sys2Proof.Machine.execTsInit addr s
  | .tsWrcfg cfg => Sys2Proof.Machine.execTsWrcfg cfg s
  | .tsTrig => Sys2Proof.Machine.execTsTrig s
  | .tsRdraw nodst => Sys2Proof.Machine.execTsRdraw nodst s
  | .tsConv raw => Sys2Proof.Machine.execTsConv raw s
  | .memInit addr => Sys2Proof.Machine.execMemInit addr s
  | .memWrseq data => Sys2Proof.Machine.execMemWrseq data s
  | .memRdat address nodst => Sys2Proof.Machine.execMemRdat address nodst s
  | .memCursor => Sys2Proof.Machine.execMemCursor s

end Sys2Proof.Machine
end

