-- ==== Sys2Proof/Machine/Step.lean ====
section
/-! DEFINITION. One step of the machine: the agent whose turn the phase says it is (spec 00_scope.md R6) makes its move. -/

namespace Sys2Proof.Machine

/-- IDLE: the host issues the next word. EXEC: the sequencer runs the command in `CUR`, or refuses an illegal word.
BUS: the transport answers. WAIT: the delay unit ends the wait. Every step answers a next state. -/
def step (s : State) : Host.Outcome State Fault Refusal :=
  match s.sequencer with
  | .idle => .next s.acceptNext
  | .exec cur =>
    match decode cur with
    | .ok i => exec i s
    | .error _ => .next s.refuseIllegal
  | .bus cur p => .next (s.resume cur p)
  | .wait _ t => .next (s.endWait t)

/-- The word as the command just accepted: in `CUR` with `PHASE = EXEC`, and in the stream at `CMD_IDX`, where the
host issued it from. The TLPB fetches nothing itself (R21, R53); this stands for the host's move (log entry 8). -/
def State.withFetchWord (s : State) (nbits w : Nat) : State :=
  { s with
    sequencer := .exec (BitVec.ofNat 32 (w % 2 ^ nbits))
    stream := s.streamWith (BitVec.ofNat 32 (w % 2 ^ nbits)) }

end Sys2Proof.Machine
end

