-- ==== Sys2Proof/Machine/Assembler.lean ====
section
/-! DEFINITION. The assembly syntax of command streams (spec 30_encoding.md R71) and its two pseudo-instructions (R72). It is
a way of writing command words; no command depends on it. -/

namespace Sys2Proof.Machine

/-- One line of assembly with its numbers read, in range or not (R71, R72). -/
inductive AsmLine where
  | tsInit (a : Nat)
  | tsWrcfg (v : Nat)
  | tsTrig
  | tsRdraw (nodst : Bool)
  | tsConv (x : Nat)
  | memInit (a : Nat)
  | memWrseq (d : Nat)
  | memRdat (x : Nat) (nodst : Bool)
  | memCursor
  /-- the pseudo-instruction `ts.shutdown R` -/
  | tsShutdown (r : Nat)
  /-- the pseudo-instruction `ts.continuous R` -/
  | tsContinuous (r : Nat)
  deriving DecidableEq, Repr

/-- The operand ranges of R71 and R72. -/
def AsmLine.inRange (l : AsmLine) : Bool :=
  match l with
  | .tsInit a => a ≤ 0x7F
  | .tsWrcfg v => v ≤ 0xFF
  | .tsTrig => true
  | .tsRdraw _ => true
  | .tsConv x => x ≤ 0xFFFF
  | .memInit a => a ≤ 0x7F
  | .memWrseq d => d ≤ 0xFFFF
  | .memRdat x _ => x ≤ 0xFFFF
  | .memCursor => true
  | .tsShutdown r => r ≤ 3
  | .tsContinuous r => r ≤ 3

/-- The pseudo-instructions' expansions (R72); any other line is its own. -/
def AsmLine.expand (l : AsmLine) : AsmLine :=
  match l with
  | .tsShutdown r => .tsWrcfg (r <<< 5 ||| 0x01)
  | .tsContinuous r => .tsWrcfg (r <<< 5)
  | l => l

/-- The word column of R71, for a line that is no pseudo-instruction and is in range. -/
def AsmLine.code (l : AsmLine) : Nat :=
  match l with
  | .tsInit a => a <<< 16 ||| 0x0
  | .tsWrcfg v => v <<< 16 ||| 0x1
  | .tsTrig => 0x00000002
  | .tsRdraw nd => if nd then 0x00000013 else 0x00000003
  | .tsConv x => x <<< 16 ||| 0x4
  | .memInit a => a <<< 16 ||| 0x8
  | .memWrseq d => d <<< 16 ||| 0x9
  | .memRdat x nd => if nd then x <<< 16 ||| 0x1A else x <<< 16 ||| 0xA
  | .memCursor => 0x0000000B
  | .tsShutdown _ => 0
  | .tsContinuous _ => 0

/-- The word a line assembles to, or none: an operand outside its range is an assembly error (R71). -/
def AsmLine.word (l : AsmLine) : Option Word :=
  if l.inRange then some (BitVec.ofNat 32 l.expand.code) else none

/-! ### Reading the text of a line -/

/-- The mnemonics and the flag of R71 and R72, in lower case as the spec writes them. -/
def kwTsInit : List Char := ['t', 's', '.', 'i', 'n', 'i', 't']
def kwTsWrcfg : List Char := ['t', 's', '.', 'w', 'r', 'c', 'f', 'g']
def kwTsTrig : List Char := ['t', 's', '.', 't', 'r', 'i', 'g']
def kwTsRdraw : List Char := ['t', 's', '.', 'r', 'd', 'r', 'a', 'w']
def kwTsConv : List Char := ['t', 's', '.', 'c', 'o', 'n', 'v']
def kwMemInit : List Char := ['m', 'e', 'm', '.', 'i', 'n', 'i', 't']
def kwMemWrseq : List Char := ['m', 'e', 'm', '.', 'w', 'r', 's', 'e', 'q']
def kwMemRdat : List Char := ['m', 'e', 'm', '.', 'r', 'd', 'a', 't']
def kwMemCursor : List Char := ['m', 'e', 'm', '.', 'c', 'u', 'r', 's', 'o', 'r']
def kwTsShutdown : List Char := ['t', 's', '.', 's', 'h', 'u', 't', 'd', 'o', 'w', 'n']
def kwTsContinuous : List Char := ['t', 's', '.', 'c', 'o', 'n', 't', 'i', 'n', 'u', 'o', 'u', 's']
def kwNodst : List Char := ['n', 'o', 'd', 's', 't']

/-- The value of a digit character: decimal digits, and letters a to f in either case. -/
def digitValue (c : Char) : Option Nat :=
  if '0'.toNat ≤ c.toNat && c.toNat ≤ '9'.toNat then some (c.toNat - '0'.toNat)
  else if 'a'.toNat ≤ c.toNat && c.toNat ≤ 'f'.toNat then some (c.toNat - 'a'.toNat + 10)
  else if 'A'.toNat ≤ c.toNat && c.toNat ≤ 'F'.toNat then some (c.toNat - 'A'.toNat + 10)
  else none

/-- A run of digits in a base, with the value so far. -/
def digits (base acc : Nat) (cs : List Char) : Option Nat :=
  match cs with
  | [] => some acc
  | c :: rest =>
    match digitValue c with
    | some d => if d < base then digits base (acc * base + d) rest else none
    | none => none

/-- A number: `0x` hex, or decimal (R71). -/
def number (cs : List Char) : Option Nat :=
  match cs with
  | [] => none
  | '0' :: 'x' :: [] => none
  | '0' :: 'x' :: rest => digits 16 0 rest
  | cs => digits 10 0 cs

/-- One character added in front of a list of tokens: blanks separate tokens, and a comma is a token of its own. -/
def addChar (c : Char) (ts : List (List Char)) : List (List Char) :=
  if c = ' ' || c = '\t' then [] :: ts
  else if c = ',' then [] :: [','] :: ts
  else match ts with
    | [] => [[c]]
    | t :: rest => (c :: t) :: rest

/-- The tokens of a line; `;` starts a comment (R71). -/
def tokens (cs : List Char) : List (List Char) :=
  ((cs.takeWhile (fun c => c ≠ ';')).foldr addChar [[]]).filter (fun t => t ≠ [])

/-- A mnemonic that stands alone. -/
def parseAlone (m : List Char) : Option AsmLine :=
  if m = kwTsTrig then some .tsTrig
  else if m = kwTsRdraw then some (.tsRdraw false)
  else if m = kwMemCursor then some .memCursor
  else none

/-- A mnemonic with one number. -/
def parseWithNumber (m : List Char) (n : Nat) : Option AsmLine :=
  if m = kwTsInit then some (.tsInit n)
  else if m = kwTsWrcfg then some (.tsWrcfg n)
  else if m = kwTsConv then some (.tsConv n)
  else if m = kwMemInit then some (.memInit n)
  else if m = kwMemWrseq then some (.memWrseq n)
  else if m = kwMemRdat then some (.memRdat n false)
  else if m = kwTsShutdown then some (.tsShutdown n)
  else if m = kwTsContinuous then some (.tsContinuous n)
  else none

/-- A line's tokens as a line of assembly (R71, R72). -/
def parseTokens (ts : List (List Char)) : Option AsmLine :=
  match ts with
  | [m] => parseAlone m
  | [m, x] =>
    if m = kwTsRdraw && x = kwNodst then some (.tsRdraw true)
    else (number x).bind (parseWithNumber m)
  | [m, x, c, f] =>
    if m = kwMemRdat && c = [','] && f = kwNodst then (number x).map (fun n => .memRdat n true) else none
  | _ => none

/-- What a line of text assembles to. -/
inductive AsmResult where
  /-- nothing on the line but blanks and a comment -/
  | blank
  /-- an assembly error -/
  | error
  /-- one command word -/
  | word (w : Word)
  deriving DecidableEq, Repr

/-- Assemble one line of text (R71: one command per line). -/
def assembleLine (cs : List Char) : AsmResult :=
  match tokens cs with
  | [] => .blank
  | ts =>
    match (parseTokens ts).bind AsmLine.word with
    | some w => .word w
    | none => .error

end Sys2Proof.Machine
end

