-- ==== Sys2Proof/Machine/RefDevices.lean ====
section
/-! DEFINITION. The reference devices of spec 20_memory.md R47 and R48: one way the two devices behind the Bus Transport may
answer, which the spec fixes for its test vectors only. They are no part of the TLPB's state and no claim about a
real device (R32, R47). -/

namespace Sys2Proof.Machine

/-! ### The items of the memory device -/

/-- 16-bit items by offset. Canonical form: offsets strictly rising, no item 0, since an offset not listed reads
as 0. The list is arbitrary at the start, so the initial contents are "any values" (R48). DESIGN CHOICE: an item may
stand at any offset, above 0x7FFF too, where R48's `M` has 0x8000 items and says nothing (log entry 22). -/
abbrev Items := List (Nat × Half)

/-- `MemRead` (R48): the item at an offset. DESIGN CHOICE: above 0x7FFF, where R48 is silent, it answers the item listed
there, and 0 if none is (log entry 22). -/
def itemAt (m : Items) (a : Nat) : Half :=
  match m with
  | [] => 0
  | (b, v) :: rest => if a = b then v else itemAt rest a

/-- Put an item in front of items at higher offsets; a 0 is not listed. -/
def putFirst (a : Nat) (v : Half) (m : Items) : Items := if v = 0 then m else (a, v) :: m

/-- `MemWrite` (R48): one 16-bit item per offset. DESIGN CHOICE: above 0x7FFF, where R48 is silent, it stores there
(log entry 22). -/
def writeItem (m : Items) (a : Nat) (v : Half) : Items :=
  match m with
  | [] => putFirst a v []
  | (b, x) :: rest =>
    if a < b then putFirst a v ((b, x) :: rest)
    else if a = b then putFirst a v rest
    else (b, x) :: writeItem rest a v

/-- The canonical form, as a check. -/
def itemsWf (m : Items) : Bool :=
  match m with
  | [] => true
  | (a, v) :: rest => v != 0 && rest.all (fun c => a < c.1) && itemsWf rest

/-! ### The devices -/

/-- The reference sensor's state (R47), at the bus address `addr` (S). -/
structure RefSensor where
  addr : Addr7
  ptr : Byte
  cfg : Byte
  temp : Half
  deriving DecidableEq, Repr

/-- The reference memory's state (R48), at the bus address `addr` (E). `busy` is "during the T_WR after a 4-byte
write". -/
structure RefMemory where
  addr : Addr7
  items : Items
  mptr : Half
  busy : Bool
  deriving DecidableEq, Repr

/-- What a frame answered FAIL leaves in the device state it would have changed: any values (R43, 92_eei_decisions.md
D32). The device may have seen the frame whole, in part or not at all. -/
structure Remains where
  /-- the sensor's `PTR`, `CFG` and `TEMP` -/
  ptr : Byte
  cfg : Byte
  temp : Half
  /-- the memory's `MPTR`, and the item at the frame's offset -/
  mptr : Half
  item : Half
  deriving DecidableEq, Repr

/-- The free draws R47, R48 and R43 leave to one request: an injected failure, a new sample, the bytes of "any byte",
the status of a request the reference models do not list, and what a failed frame leaves behind (log entry 16). -/
structure Draw where
  failed : Bool
  sample : Option Half
  any0 : Byte
  any1 : Byte
  unlistedOk : Bool
  remains : Remains
  deriving DecidableEq, Repr

/-- The answer to a request the reference model does not list: the draw's. -/
def Draw.unlisted (d : Draw) : Answer := if d.unlistedOk then .ok d.any0 d.any1 else .fail

/-- `TEMP` after a configuration write of v (R47): with OS and SD set it may be replaced by a new sample. -/
def sampled (x : RefSensor) (v : Byte) (d : Draw) : Half :=
  if oneShotFlag v && shutdownFlag v then d.sample.getD x.temp else x.temp

/-- The reference sensor after a frame answered FAIL (R43): every register the frame would have changed holds any
value. A frame to the configuration register counts `TEMP` among them, whatever its byte, because the device may
have seen the byte in part. -/
def spoilSensor (x : RefSensor) (d : Draw) (q : Request) : RefSensor :=
  match q with
  | .tx _ [_] _ _ => { x with ptr := d.remains.ptr }
  | .tx _ [p, _] _ _ =>
    if p = regCfg then { x with ptr := d.remains.ptr, cfg := d.remains.cfg, temp := d.remains.temp }
    else { x with ptr := d.remains.ptr }
  | _ => x

/-- The reference sensor answers a request (R47). -/
def serveSensor (x : RefSensor) (d : Draw) (q : Request) : Answer × RefSensor :=
  if d.failed then (.fail, spoilSensor x d q) else
  match q with
  | .tx _ [p] _ _ => (.ok d.any0 d.any1, { x with ptr := p })
  | .tx _ [p, v] _ _ =>
    (.ok d.any0 d.any1,
      if p = regCfg then { x with ptr := p, cfg := v, temp := sampled x v d } else { x with ptr := p })
  | .rx _ 1 _ => (if x.ptr = regCfg then .ok x.cfg d.any1 else .ok d.any0 d.any1, x)
  | .rx _ 2 _ =>
    (if x.ptr = regTemp then .ok (x.temp.extractLsb' 8 8) (x.temp.extractLsb' 0 8) else .ok d.any0 d.any1, x)
  | _ => (d.unlisted, x)

/-- The reference memory after a frame answered FAIL (R43): `MPTR` and, for a write frame, the item at its offset hold
any value (R102 bounds it to that offset). -/
def spoilMemory (x : RefMemory) (d : Draw) (q : Request) : RefMemory :=
  match q with
  | .tx _ [ah, al, _, _] _ _ =>
    { x with items := writeItem x.items (merge ah al).toNat d.remains.item, mptr := d.remains.mptr }
  | .tx _ [_, _] _ _ => { x with mptr := d.remains.mptr }
  | _ => x

/-- The reference memory answers a request (R48). DESIGN CHOICE: a request whose offset, or whose `MPTR`, is above
0x7FFF is answered like any other (log entry 22). -/
def serveMemory (x : RefMemory) (d : Draw) (q : Request) : Answer × RefMemory :=
  if d.failed || x.busy then (.fail, spoilMemory x d q) else
  match q with
  | .tx _ [ah, al, dh, dl] _ _ =>
    (.ok d.any0 d.any1,
      { x with items := writeItem x.items (merge ah al).toNat (merge dh dl), mptr := merge ah al, busy := true })
  | .tx _ [ah, al] _ _ => (.ok d.any0 d.any1, { x with mptr := merge ah al })
  | .rx _ 2 _ =>
    (.ok ((itemAt x.items x.mptr.toNat).extractLsb' 8 8) ((itemAt x.items x.mptr.toNat).extractLsb' 0 8), x)
  | _ => (d.unlisted, x)

/-- The device a request names: bits 7..1 of its address byte (R65). -/
def Request.device (q : Request) : Addr7 :=
  match q with
  | .tx a8 _ _ _ => a8.extractLsb' 1 7
  | .rx a8 _ _ => a8.extractLsb' 1 7

/-- The two devices on the bus answer a request (R47, R48), and an address that names no device is answered FAIL. If
both devices stood at one address, the sensor would answer (log entry 16). -/
def serve (x : RefSensor) (m : RefMemory) (d : Draw) (q : Request) : Answer × RefSensor × RefMemory :=
  if q.device = x.addr then ((serveSensor x d q).1, (serveSensor x d q).2, m)
  else if q.device = m.addr then ((serveMemory m d q).1, x, (serveMemory m d q).2)
  else (.fail, x, m)

end Sys2Proof.Machine
end

