-- ==== Sys2Proof/Machine/Platform.lean ====
section
/-! DEFINITION. The TLPB with the reference devices behind its bus (spec 60_exceptions.md R120, 20_memory.md R47 and R48):
the closed system the spec's test programs run on. -/

namespace Sys2Proof.Machine

/-- The chip, the two reference devices, and the draws still to come, one per bus request. -/
structure Platform where
  chip : State
  sensor : RefSensor
  memory : RefMemory
  draws : List Draw
  deriving DecidableEq, Repr

/-- One step of the chip; it never stops, so the state it stops in is not met. -/
def chipStep (s : State) : State :=
  match step s with
  | .next t => t
  | .fault _ => s
  | .refused _ => s

/-- The transport's move: the outstanding request is answered by the devices, with one draw. With no draw left the
transport does not answer. -/
def Platform.answer (p : Platform) (pos : Position) : Platform :=
  match p.draws with
  | [] => p
  | d :: rest =>
    { chip := chipStep (p.chip.setAnswers [(serve p.sensor p.memory d (pos.request p.chip)).1])
      sensor := (serve p.sensor p.memory d (pos.request p.chip)).2.1
      memory := (serve p.sensor p.memory d (pos.request p.chip)).2.2
      draws := rest }

/-- One step of the platform. The chip's own answer list stays empty, so that every request goes to the devices;
the memory is ready again when the delay unit ends the wait `T_WR` (R48, R135). -/
def Platform.step (p : Platform) : Platform :=
  match p.chip.sequencer with
  | .bus _ pos => p.answer pos
  | .wait _ t => { p with chip := chipStep p.chip, memory := { p.memory with busy := p.memory.busy && t != .tWr } }
  | .exec _ => { p with chip := chipStep (p.chip.setAnswers []) }
  | .idle => { p with chip := chipStep p.chip }

/-- `n` steps of the platform. -/
def Platform.run (n : Nat) (p : Platform) : Platform :=
  match n with
  | 0 => p
  | k + 1 => Platform.run k p.step

end Sys2Proof.Machine
end

