-- ==== Sys2Proof/Safety.lean ====
section
/-! DEFINITION. What counts as a safe state and a safe run, in the terms the claims use: legal responses, legal bus
requests, a legal sequencer, the invariant of every state a run reaches, and what a run is observed by. -/

namespace Sys2Proof.Machine

/-! ### Response words (spec 30_encoding.md R62 to R64) -/

def respData (r : Word) : Half := r.extractLsb' 16 16
def respRsv (r : Word) : BitVec 10 := r.extractLsb' 6 10
def respRes (r : Word) : ResCode := r.extractLsb' 4 2
def respDv (r : Word) : Bool := r.getLsbD 3
def respStatus (r : Word) : BitVec 3 := r.extractLsb' 0 3

/-- A response the spec allows: `RSV = 0`, a status that is ever produced, no output value without `DV`, and no
output value with an error (R62, R63, R64). -/
structure ResponseLegal (r : Word) : Prop where
  rsv : respRsv r = 0
  status : respStatus r ≠ 4 ∧ respStatus r ≠ 5
  noValue : respDv r = false → respData r = 0 ∧ respRes r = 0
  error : respStatus r ≠ 0 → respDv r = false

/-! ### Bus requests (R65, R68, R69, R79) -/

/-- The bytes one of the eight frames sends (R68). The offset of a memory frame is at most 0x7FFF (R38). -/
def PayloadLegal (bytes : List Byte) : Prop :=
  bytes = [regTemp] ∨ bytes = [regCfg] ∨ (∃ v, bytes = [regCfg, v]) ∨
  ∃ a : Half, a.toNat ≤ 0x7FFF ∧ (bytes = split a ∨ ∃ d, bytes = split a ++ split d)

/-- A request the framer makes: the direction bit is right, the length is the number of bytes, the timeout is
`T_BUS`, and the payload is that of a frame. -/
def RequestLegal (q : Request) : Prop :=
  match q with
  | .tx a8 bytes length t => a8.getLsbD 0 = false ∧ length = bytes.length ∧ t = .tBus ∧ PayloadLegal bytes
  | .rx a8 length t => a8.getLsbD 0 = true ∧ (length = 1 ∨ length = 2) ∧ t = .tBus

/-- A reply that fits its request: an OK receive brings exactly `length` bytes (R126). -/
def ReplyFits (q : Request) (r : Reply) : Prop :=
  match q, r with
  | _, .fail => True
  | .tx _ _ _ _, .ok bytes => bytes = []
  | .rx _ length _, .ok bytes => bytes.length = length

/-- A legal event of the record: a legal request with a fitting reply, or one of the two waits (R119). -/
def EventLegal (e : Event) : Prop :=
  match e with
  | .transfer q r => RequestLegal q ∧ ReplyFits q r
  | .wait t => t = .tWr ∨ ∃ r, t = .tConv r

/-! ### The sequencer -/

/-- A position belongs to the command in `CUR`, and what the command checked before it holds (R93 to R96, R102,
R103). -/
def PositionLegal (p : Position) (cur : Word) (s : State) : Prop :=
  match p with
  | .tsInitPtr => cur = encode (.tsInit s.tsAddr)
  | .tsInitRd => cur = encode (.tsInit s.tsAddr)
  | .tsWrcfgWr v => s.tsValid = true ∧ cur = encode (.tsWrcfg v)
  | .tsTrigPtr => s.tsValid = true ∧ cur = encode .tsTrig
  | .tsTrigRd => s.tsValid = true ∧ cur = encode .tsTrig
  | .tsTrigWr w => s.tsValid = true ∧ cur = encode .tsTrig ∧ oneShotFlag w = true ∧ shutdownFlag w = true
  | .tsRdrawPtr => s.tsValid = true ∧ cur = encode (.tsRdraw false)
  | .tsRdrawRd => s.tsValid = true ∧ cur = encode (.tsRdraw false)
  | .memWrseqWr d => s.memValid = true ∧ cur = encode (.memWrseq d)
  | .memRdatPtr a => s.memValid = true ∧ a.toNat ≤ 0x7FFF ∧ cur = encode (.memRdat a false)
  | .memRdatRd => s.memValid = true ∧ ∃ a : Half, a.toNat ≤ 0x7FFF ∧ cur = encode (.memRdat a false)

/-- In BUS the command is at a position of its own; in WAIT it is TS_TRIG or MEM_WRSEQ, waiting for its own
duration (R30, R119). -/
def SequencerLegal (s : State) : Prop :=
  match s.sequencer with
  | .idle => True
  | .exec _ => True
  | .bus cur p => PositionLegal p cur s
  | .wait cur t =>
    (s.tsValid = true ∧ cur = encode .tsTrig ∧ t = .tConv s.tsRes) ∨
    (s.memValid = true ∧ ∃ d, cur = encode (.memWrseq d) ∧ t = .tWr)

/-! ### The invariant -/

/-- What every state of a run meets. `cursor` is the source's invariant (R26); `count` says that each response has
advanced `CMD_IDX` by one (R21); `current` that the command in progress is the host's word at `CMD_IDX`. -/
structure State.Inv (s : State) : Prop where
  cursor : s.memValid = true → s.cursor.toNat ≤ 0x7FFF
  count : s.cmdIdx = s.responses.length
  current : ∀ w, s.cur = some w → s.stream[s.cmdIdx]? = some w
  sequencer : SequencerLegal s
  responses : ∀ r ∈ s.responses, ResponseLegal r
  trace : ∀ e ∈ s.trace, EventLegal e

/-! ### Runs and observations -/

/-- k steps of the machine, ending at the first that does not answer a next state. -/
def stepTimes (k : Nat) (s : State) : Host.Outcome State Fault Refusal :=
  match k with
  | 0 => .next s
  | n + 1 =>
    match step s with
    | .next t => stepTimes n t
    | .fault f => .fault f
    | .refused r => .refused r

/-- The six architectural registers (R20). -/
structure Registers where
  tsValid : Bool
  tsAddr : Addr7
  tsRes : ResCode
  memValid : Bool
  memAddr : Addr7
  cursor : Half
  deriving DecidableEq, Repr

def State.registers (s : State) : Registers :=
  { tsValid := s.tsValid, tsAddr := s.tsAddr, tsRes := s.tsRes,
    memValid := s.memValid, memAddr := s.memAddr, cursor := s.cursor }

/-- The end of a run over the host's stream (R127): `CMD_IDX = L` and `PHASE = IDLE`. -/
def State.finished (s : State) : Prop := s.cmdIdx = s.stream.length ∧ s.phase = .idle

/-- What a run is observed by (R127): the responses, the bus requests with their answers, the final registers. -/
structure Observation where
  responses : List Word
  transfers : List (Request × Reply)
  registers : Registers
  deriving DecidableEq, Repr

def Event.exchange (e : Event) : Option (Request × Reply) :=
  match e with
  | .transfer q r => some (q, r)
  | .wait _ => none

def State.observation (s : State) : Observation :=
  { responses := s.responses, transfers := s.trace.filterMap Event.exchange, registers := s.registers }

/-! ### Units and frames -/

/-- The commands of the TSU; the others are the SMU's (R57). -/
def isSensorCommand (i : Instr) : Bool :=
  match i with
  | .tsInit _ => true
  | .tsWrcfg _ => true
  | .tsTrig => true
  | .tsRdraw _ => true
  | .tsConv _ => true
  | .memInit _ => false
  | .memWrseq _ => false
  | .memRdat _ _ => false
  | .memCursor => false

/-- The state with other values in the SMU's registers. -/
def State.withMemUnit (s : State) (v : Bool) (a : Addr7) (c : Half) : State :=
  { s with memValid := v, memAddr := a, cursor := c }

/-- The state with other values in the TSU's registers. -/
def State.withSensorUnit (s : State) (v : Bool) (a : Addr7) (r : ResCode) : State :=
  { s with tsValid := v, tsAddr := a, tsRes := r }

/-- A frame's direction and its payload length (R42). -/
inductive FrameShape where
  | sent (n : Nat)
  | received (n : Nat)
  deriving DecidableEq, Repr

def Request.shape (q : Request) : FrameShape :=
  match q with
  | .tx _ _ n _ => .sent n
  | .rx _ n _ => .received n

/-- An event's shape, if it is a bus request. -/
def Event.shape (e : Event) : Option FrameShape :=
  match e with
  | .transfer q _ => some q.shape
  | .wait _ => none

/-- The shape of the request outstanding, if one is. -/
def State.outstanding (s : State) : List (Option FrameShape) :=
  match s.sequencer with
  | .bus _ p => [some (p.request s).shape]
  | .idle => []
  | .exec _ => []
  | .wait _ _ => []

/-- The frames of each command, in order (R42's table). -/
def frameShapes (i : Instr) : List (Option FrameShape) :=
  match i with
  | .tsInit _ => [some (.sent 1), some (.received 1)]
  | .tsWrcfg _ => [some (.sent 2)]
  | .tsTrig => [some (.sent 1), some (.received 1), some (.sent 2)]
  | .tsRdraw _ => [some (.sent 1), some (.received 2)]
  | .tsConv _ => []
  | .memInit _ => []
  | .memWrseq _ => [some (.sent 4)]
  | .memRdat _ _ => [some (.sent 2), some (.received 2)]
  | .memCursor => []

/-- The statuses a command's response may carry (R107). -/
def statuses (i : Instr) : List Status :=
  match i with
  | .tsInit _ => [.ok]
  | .tsWrcfg _ => [.ok, .uninitialised, .transportError]
  | .tsTrig => [.ok, .uninitialised, .transportError, .deviceNotReady]
  | .tsRdraw _ => [.ok, .uninitialised, .invalidArgument, .transportError]
  | .tsConv _ => [.ok, .uninitialised]
  | .memInit _ => [.ok]
  | .memWrseq _ => [.ok, .uninitialised, .transportError]
  | .memRdat _ _ => [.ok, .uninitialised, .invalidArgument, .transportError]
  | .memCursor => [.ok, .uninitialised]

/-! ### The platform with the reference devices -/

/-- The memory device is in its write cycle only while the TLPB waits for it, so that no request meets it busy
(R48, R135). -/
structure Platform.Safe (p : Platform) : Prop where
  sequencer : SequencerLegal p.chip
  busy : p.memory.busy = true → ∃ cur, p.chip.sequencer = .wait cur .tWr
  items : itemsWf p.memory.items = true

end Sys2Proof.Machine
end

