-- ==== Sys2Proof/Certificates/Slice0/Obligations.lean ====
section
/-! DEFINITION. The statements for the provers, from the spec's numbered rules: the encodings, the data path, each command's
meaning as its own rule gives it, the machine by phase, the invariants, the units apart, and the reference devices. -/

open Sys2Proof Sys2Proof.Machine

/-! ### Encoding -/

/-- R60: a word decodes to a command exactly when it is legal, and is legal exactly when it matches a row of the
opcode table; no two rows match one word. -/
def Obligations.LegalWordsAreTheTableWords : Prop :=
  ∀ w : Word,
    ((∃ i, decode w = .ok i) ↔ legal w = true) ∧
    (legal w = true ↔ ∃ r ∈ opcodeTable, r.accepts w = true) ∧
    (∀ r ∈ opcodeTable, ∀ r' ∈ opcodeTable, r.accepts w = true → r'.accepts w = true → r = r')

/-- Decoding inverts encoding, both ways: each command has one word and each legal word one command, with every
operand at every value (R56, R57, R58). -/
def Obligations.DecodeInvertsEncode : Prop :=
  ∀ (w : Word) (i : Instr), decode w = .ok i ↔ w = encode i

/-- A decoded command carries the mnemonic of the table row its word matches, and its unit is the one `OP[3]`
selects (R57). -/
def Obligations.DecodedCommandIsItsRows : Prop :=
  ∀ (w : Word) (i : Instr), decode w = .ok i →
    (∃ r ∈ opcodeTable, r.accepts w = true ∧ r.mnemonic = i.mnemonic) ∧
    (w.getLsbD 3 = false ↔ isSensorCommand i = true)

/-- Words written out from R56, R57 and R58, one per family and operand form, decode to the commands they stand
for. -/
def Obligations.WrittenOutWordsDecode : Prop :=
  decode 0x00480000 = .ok (.tsInit 0x48) ∧ decode 0x00210001 = .ok (.tsWrcfg 0x21) ∧
  decode 0x00000002 = .ok .tsTrig ∧ decode 0x00000013 = .ok (.tsRdraw true) ∧
  decode 0x0C900004 = .ok (.tsConv 0x0C90) ∧ decode 0x00500008 = .ok (.memInit 0x50) ∧
  decode 0xBEEF0009 = .ok (.memWrseq 0xBEEF) ∧ decode 0x8000001A = .ok (.memRdat 0x8000 true) ∧
  decode 0x0000000B = .ok .memCursor

/-- R71: a line with an operand out of range has no word; any other line has one, it is legal, and it decodes to
the command the line names (a pseudo-instruction to its expansion, R72). -/
def Obligations.AssemblerEmitsOnlyLegalWords : Prop :=
  ∀ l : AsmLine,
    (l.inRange = false → l.word = none) ∧
    (l.inRange = true → ∃ w, l.word = some w ∧ legal w = true) ∧
    (∀ a : Addr7, (AsmLine.tsInit a.toNat).word = some (encode (.tsInit a)) ∧
      (AsmLine.memInit a.toNat).word = some (encode (.memInit a))) ∧
    (∀ v : Byte, (AsmLine.tsWrcfg v.toNat).word = some (encode (.tsWrcfg v))) ∧
    (∀ x : Half, (AsmLine.tsConv x.toNat).word = some (encode (.tsConv x)) ∧
      (AsmLine.memWrseq x.toNat).word = some (encode (.memWrseq x)) ∧
      ∀ nd, (AsmLine.memRdat x.toNat nd).word = some (encode (.memRdat x nd))) ∧
    (∀ nd, (AsmLine.tsRdraw nd).word = some (encode (.tsRdraw nd))) ∧
    AsmLine.tsTrig.word = some (encode .tsTrig) ∧ AsmLine.memCursor.word = some (encode .memCursor)

/-- R72: the two pseudo-instructions write the resolution code with SD = 1, or with SD = 0, and OS = 0; a code above
3 is an error. -/
def Obligations.PseudoInstructionsExpand : Prop :=
  (∀ r : ResCode,
    (AsmLine.tsShutdown r.toNat).word = some (encode (.tsWrcfg ((r.setWidth 8 <<< 5) ||| 0x01))) ∧
    (AsmLine.tsContinuous r.toNat).word = some (encode (.tsWrcfg (r.setWidth 8 <<< 5)))) ∧
  (∀ n : Nat, 3 < n → (AsmLine.tsShutdown n).word = none ∧ (AsmLine.tsContinuous n).word = none)

/-! ### The data path -/

/-- R74, R75: the write address byte is the address shifted left by one, the read address byte that with bit 0
set. -/
def Obligations.AddressBytesCarryAddressAndDirection : Prop :=
  ∀ a : Addr7,
    writeAddress a = a.setWidth 8 <<< 1 ∧ (writeAddress a).toNat = 2 * a.toNat ∧
    readAddress a = (a.setWidth 8 <<< 1) ||| 1 ∧ (readAddress a).toNat = 2 * a.toNat + 1 ∧
    readAddress a = writeAddress a ||| 0x01 ∧ readAddress a = writeAddress a + 1

/-- R70: splitting puts the high byte first, and merging takes the first byte as the high one. -/
def Obligations.SplitAndMergeAreBigEndian : Prop :=
  (∀ v : Half, split v = [BitVec.ofNat 8 (v.toNat / 256), BitVec.ofNat 8 (v.toNat % 256)]) ∧
  (∀ b0 b1 : Byte, (merge b0 b1).toNat = b0.toNat * 256 + b1.toNat) ∧
  (∀ b0 b1 : Byte, split (merge b0 b1) = [b0, b1])

/-- R67 and the write-back byte of R95: bits 6..5 with bit 5 least significant are the code; setting OS keeps every
other bit, so the code too. -/
def Obligations.ConfigurationByteFields : Prop :=
  (∀ v : Byte, (resOf v).toNat = v.toNat / 32 % 4) ∧ resOf 0x21 = 1 ∧
  (∀ (v : Byte) (k : Nat), (withOneShot v).getLsbD k = (v.getLsbD k || k == 7)) ∧
  (∀ v : Byte, resOf (withOneShot v) = resOf v)

/-- R86: the closed forms of the resolution table, for every code. -/
def Obligations.ResolutionTableClosedForms : Prop :=
  ∀ r : ResCode,
    shiftAmount r = 7 - r.toNat ∧
    signMask r = 1#16 <<< (16 - shiftAmount r) ∧ signMask r = 0x0200#16 <<< r.toNat ∧
    extMask r = 0xFFFF#16 <<< (16 - shiftAmount r) ∧
    weight r = (1 / 2) ^ (r.toNat + 1)

/-- R89: the sign stage never changes a value, and the decoded count is the floor of the signed sample divided by
the power of two of the shift; it is the sign extension of the bits the shift keeps. -/
def Obligations.DecoderIsAFloorDivision : Prop :=
  ∀ (raw : Half) (r : ResCode),
    decodeSample raw r = asr16 raw (shiftAmount r) ∧
    (decodeSample raw r).toInt = raw.toInt / 2 ^ shiftAmount r ∧
    decodeSample raw r = (raw.extractLsb' (shiftAmount r) (16 - shiftAmount r)).signExtend 16

/-- R91: the range of the decoded count and of the Celsius value at each code, both ends attained; the low bits of
the sample are discarded, the rounding is the floor, and one count is 2^-(r+1) °C. -/
def Obligations.DecodedRangeByResolution : Prop :=
  ∀ r : ResCode,
    (∀ raw : Half, -(256 * 2 ^ r.toNat) ≤ (decodeSample raw r).toInt ∧
      (decodeSample raw r).toInt ≤ 256 * 2 ^ r.toNat - 1) ∧
    (decodeSample 0x8000 r).toInt = -(256 * 2 ^ r.toNat) ∧
    (decodeSample 0x7FFF r).toInt = 256 * 2 ^ r.toNat - 1 ∧
    (∀ raw : Half, -128 ≤ celsius (decodeSample raw r) r ∧ celsius (decodeSample raw r) r ≤ 128 - weight r) ∧
    celsius (decodeSample 0x8000 r) r = -128 ∧ celsius (decodeSample 0x7FFF r) r = 128 - weight r ∧
    (∀ raw raw' : Half, raw.toNat / 2 ^ shiftAmount r = raw'.toNat / 2 ^ shiftAmount r →
      decodeSample raw r = decodeSample raw' r) ∧
    (∀ raw : Half, celsius (decodeSample raw r) r = (raw.toInt / 2 ^ shiftAmount r : Int) * (1 / 2) ^ (r.toNat + 1)) ∧
    (decodeSample 0xFFF8 3).toInt = -1

/-- The source's decoder properties (R98, 1 and 2), on the shifted value as 90_conflicts.md C5 settles: the sign bit
decides the sign. -/
def Obligations.SignBitDecidesTheSign : Prop :=
  ∀ (raw : Half) (r : ResCode),
    (asr16 raw (shiftAmount r) &&& signMask r = 0 →
      decodeSample raw r = asr16 raw (shiftAmount r) ∧ 0 ≤ (decodeSample raw r).toInt) ∧
    (asr16 raw (shiftAmount r) &&& signMask r ≠ 0 →
      raw.getLsbD 15 = true ∧ (decodeSample raw r).toInt < 0 ∧ celsius (decodeSample raw r) r < 0)

/-- R99: the cursor increment on its domain, with the wrap after 0x7FFF, and its two closed forms; a successful append
at 0x7FFF goes to 0x7FFF, and then the cursor is 0. -/
def Obligations.CursorIncrementWraps : Prop :=
  (∀ c : Half, c.toNat ≤ 0x7FFF →
    nextCursor c = (if c = 0x7FFF then 0 else c + 1) ∧
    nextCursor c = (c + 1) &&& 0x7FFF ∧ (nextCursor c).toNat = (c.toNat + 1) % 0x8000) ∧
  (∀ (s : State) (d : Half) (x y : Byte) (rest : List Answer),
    s.memValid = true → s.cursor = 0x7FFF → s.answers = .ok x y :: rest →
    ∃ t, exec (.memWrseq d) s = .next t ∧ t.cursor = 0x0000 ∧
      t.trace = s.trace ++ [.transfer (.tx (writeAddress s.memAddr)
        [0x7F, 0xFF, d.extractLsb' 8 8, d.extractLsb' 0 8] 4 .tBus) (.ok [])])

/-! ### The commands of the temperature-sensor unit -/

/-- R93, TS_INIT: it always ends OK. The pointer write goes out first; the read only after it is answered OK; the
code is that of the byte read, or 0 when either frame fails. -/
def Obligations.TsInitConstructsTheUnit : Prop :=
  ∀ (s : State) (a : Addr7),
    (encode (.tsInit a)).toNat = a.toNat * 0x10000 + 0x0 ∧
    (∀ rest, s.answers = .fail :: rest →
      exec (.tsInit a) s = .next (State.deliver { s with
        tsAddr := a, tsRes := 0, tsValid := true, answers := rest
        trace := s.trace ++ [.transfer (.tx (writeAddress a) [0x01] 1 .tBus) .fail] } 0x00000000)) ∧
    (∀ x y rest, s.answers = .ok x y :: .fail :: rest →
      exec (.tsInit a) s = .next (State.deliver { s with
        tsAddr := a, tsRes := 0, tsValid := true, answers := rest
        trace := s.trace ++ [.transfer (.tx (writeAddress a) [0x01] 1 .tBus) (.ok []),
          .transfer (.rx (readAddress a) 1 .tBus) .fail] } 0x00000000)) ∧
    (∀ x y cfg z rest, s.answers = .ok x y :: .ok cfg z :: rest →
      exec (.tsInit a) s = .next (State.deliver { s with
        tsAddr := a, tsRes := cfg.extractLsb' 5 2, tsValid := true, answers := rest
        trace := s.trace ++ [.transfer (.tx (writeAddress a) [0x01] 1 .tBus) (.ok []),
          .transfer (.rx (readAddress a) 1 .tBus) (.ok [cfg])] } 0x00000000))

/-- R94, TS_WRCFG: UNINITIALISED before TS_INIT; one frame `[0x01, v]`; the cache takes the code of v on success and
is left unchanged on failure. No wait. -/
def Obligations.TsWrcfgWritesTheConfiguration : Prop :=
  ∀ (s : State) (v : Byte),
    (encode (.tsWrcfg v)).toNat = v.toNat * 0x10000 + 0x1 ∧
    (s.tsValid = false → exec (.tsWrcfg v) s = .next (s.deliver 0x00000006)) ∧
    (∀ rest, s.tsValid = true → s.answers = .fail :: rest →
      exec (.tsWrcfg v) s = .next (State.deliver { s with
        answers := rest
        trace := s.trace ++ [.transfer (.tx (writeAddress s.tsAddr) [0x01, v] 2 .tBus) .fail] } 0x00000001)) ∧
    (∀ x y rest, s.tsValid = true → s.answers = .ok x y :: rest →
      exec (.tsWrcfg v) s = .next (State.deliver { s with
        tsRes := v.extractLsb' 5 2, answers := rest
        trace := s.trace ++ [.transfer (.tx (writeAddress s.tsAddr) [0x01, v] 2 .tBus) (.ok [])] } 0x00000000))

/-- R95, TS_TRIG: UNINITIALISED before TS_INIT; TRANSPORT_ERROR of the pointer write, the read or the write-back;
DEVICE_NOT_READY when the byte read has SD = 0, with nothing written back. None of these changes a register, and no
wait follows. With SD = 1 the byte goes back with OS set; then the cache is refreshed when the strap says so, the
command waits `T_CONV` of the code it then holds, and when the wait ends the response is OK. -/
def Obligations.TsTrigTriggersAndWaits : Prop :=
  (encode .tsTrig).toNat = 0x00000002 ∧ ∀ s : State,
    (s.tsValid = false → exec .tsTrig s = .next (s.deliver 0x00000006)) ∧
    (∀ rest, s.tsValid = true → s.answers = .fail :: rest →
      exec .tsTrig s = .next (State.deliver { s with
        answers := rest
        trace := s.trace ++ [.transfer (.tx (writeAddress s.tsAddr) [0x01] 1 .tBus) .fail] } 0x00000001)) ∧
    (∀ x y rest, s.tsValid = true → s.answers = .ok x y :: .fail :: rest →
      exec .tsTrig s = .next (State.deliver { s with
        answers := rest
        trace := s.trace ++ [.transfer (.tx (writeAddress s.tsAddr) [0x01] 1 .tBus) (.ok []),
          .transfer (.rx (readAddress s.tsAddr) 1 .tBus) .fail] } 0x00000001)) ∧
    (∀ x y cfg z rest, s.tsValid = true → s.answers = .ok x y :: .ok cfg z :: rest → cfg.getLsbD 0 = false →
      exec .tsTrig s = .next (State.deliver { s with
        answers := rest
        trace := s.trace ++ [.transfer (.tx (writeAddress s.tsAddr) [0x01] 1 .tBus) (.ok []),
          .transfer (.rx (readAddress s.tsAddr) 1 .tBus) (.ok [cfg])] } 0x00000003)) ∧
    (∀ x y cfg z rest, s.tsValid = true → s.answers = .ok x y :: .ok cfg z :: .fail :: rest →
      cfg.getLsbD 0 = true →
      exec .tsTrig s = .next (State.deliver { s with
        answers := rest
        trace := s.trace ++ [.transfer (.tx (writeAddress s.tsAddr) [0x01] 1 .tBus) (.ok []),
          .transfer (.rx (readAddress s.tsAddr) 1 .tBus) (.ok [cfg]),
          .transfer (.tx (writeAddress s.tsAddr) [0x01, cfg ||| 0x80] 2 .tBus) .fail] } 0x00000001)) ∧
    (∀ x y cfg z x' y' rest, s.tsValid = true → s.answers = .ok x y :: .ok cfg z :: .ok x' y' :: rest →
      cfg.getLsbD 0 = true →
      ∃ t : State,
        t = { s with
          tsRes := if s.trigUpdatesCache then cfg.extractLsb' 5 2 else s.tsRes
          answers := rest
          trace := s.trace ++ [.transfer (.tx (writeAddress s.tsAddr) [0x01] 1 .tBus) (.ok []),
            .transfer (.rx (readAddress s.tsAddr) 1 .tBus) (.ok [cfg]),
            .transfer (.tx (writeAddress s.tsAddr) [0x01, cfg ||| 0x80] 2 .tBus) (.ok [])]
          sequencer := .wait (encode .tsTrig)
            (.tConv (if s.trigUpdatesCache then cfg.extractLsb' 5 2 else s.tsRes)) } ∧
        exec .tsTrig s = .next t ∧
        step t = .next (State.deliver { t with trace := t.trace ++ [.wait (.tConv t.tsRes)] } 0x00000000))

/-- R96, TS_RDRAW: UNINITIALISED, then INVALID_ARGUMENT for an absent destination before any I/O, then the two frames
in order; the two bytes received are the sample, the first one high. -/
def Obligations.TsRdrawReadsTheSample : Prop :=
  (∀ nd, (encode (.tsRdraw nd)).toNat = nd.toNat * 0x10 + 0x3) ∧ ∀ s : State,
    (∀ nd, s.tsValid = false → exec (.tsRdraw nd) s = .next (s.deliver 0x00000006)) ∧
    (s.tsValid = true → exec (.tsRdraw true) s = .next (s.deliver 0x00000002)) ∧
    (∀ rest, s.tsValid = true → s.answers = .fail :: rest →
      exec (.tsRdraw false) s = .next (State.deliver { s with
        answers := rest
        trace := s.trace ++ [.transfer (.tx (writeAddress s.tsAddr) [0x00] 1 .tBus) .fail] } 0x00000001)) ∧
    (∀ x y rest, s.tsValid = true → s.answers = .ok x y :: .fail :: rest →
      exec (.tsRdraw false) s = .next (State.deliver { s with
        answers := rest
        trace := s.trace ++ [.transfer (.tx (writeAddress s.tsAddr) [0x00] 1 .tBus) (.ok []),
          .transfer (.rx (readAddress s.tsAddr) 2 .tBus) .fail] } 0x00000001)) ∧
    (∀ x y b0 b1 rest, s.tsValid = true → s.answers = .ok x y :: .ok b0 b1 :: rest →
      exec (.tsRdraw false) s = .next (State.deliver { s with
        answers := rest
        trace := s.trace ++ [.transfer (.tx (writeAddress s.tsAddr) [0x00] 1 .tBus) (.ok []),
          .transfer (.rx (readAddress s.tsAddr) 2 .tBus) (.ok [b0, b1])] } (b0 ++ b1 ++ 0x0008#16)))

/-- R97, TS_CONV: UNINITIALISED before TS_INIT; then the count of the sample at the cached code and that code, whose
Celsius value is the count times 2^-(r+1). No register changes, and no request is made. -/
def Obligations.TsConvDeliversCountAndCode : Prop :=
  ∀ (s : State) (raw : Half),
    (encode (.tsConv raw)).toNat = raw.toNat * 0x10000 + 0x4 ∧
    (s.tsValid = false → exec (.tsConv raw) s = .next (s.deliver 0x00000006)) ∧
    (s.tsValid = true → ∃ r : Word,
      exec (.tsConv raw) s = .next (s.deliver r) ∧
      (respData r).toInt = raw.toInt / 2 ^ (7 - s.tsRes.toNat) ∧ respRes r = s.tsRes ∧
      respDv r = true ∧ respStatus r = 0 ∧ respRsv r = 0 ∧
      celsius (respData r) (respRes r) = (respData r).toInt * (1 / 2) ^ (s.tsRes.toNat + 1))

/-! ### The commands of the sequential-memory unit -/

/-- R101, MEM_INIT: it always ends OK, makes no request, and sets the cursor to 0 whatever it held. -/
def Obligations.MemInitConstructsTheUnit : Prop :=
  ∀ (s : State) (a : Addr7),
    (encode (.memInit a)).toNat = a.toNat * 0x10000 + 0x8 ∧
    exec (.memInit a) s =
      .next (State.deliver { s with memAddr := a, cursor := 0, memValid := true } 0x00000000)

/-- R102, MEM_WRSEQ: UNINITIALISED before MEM_INIT; one frame of the cursor and the data, big-endian; on success the
cursor advances, the command waits `T_WR`, and the response follows the wait; on failure nothing changes. -/
def Obligations.MemWrseqAppendsAtTheCursor : Prop :=
  ∀ (s : State) (d : Half),
    (encode (.memWrseq d)).toNat = d.toNat * 0x10000 + 0x9 ∧
    (s.memValid = false → exec (.memWrseq d) s = .next (s.deliver 0x00000006)) ∧
    (∀ rest, s.memValid = true → s.answers = .fail :: rest →
      exec (.memWrseq d) s = .next (State.deliver { s with
        answers := rest
        trace := s.trace ++ [.transfer (.tx (writeAddress s.memAddr)
          [s.cursor.extractLsb' 8 8, s.cursor.extractLsb' 0 8, d.extractLsb' 8 8, d.extractLsb' 0 8] 4 .tBus)
          .fail] } 0x00000001)) ∧
    (∀ x y rest, s.memValid = true → s.answers = .ok x y :: rest →
      ∃ t : State,
        t = { s with
          cursor := if s.cursor = 0x7FFF then 0 else s.cursor + 1
          answers := rest
          trace := s.trace ++ [.transfer (.tx (writeAddress s.memAddr)
            [s.cursor.extractLsb' 8 8, s.cursor.extractLsb' 0 8, d.extractLsb' 8 8, d.extractLsb' 0 8] 4 .tBus)
            (.ok [])]
          sequencer := .wait (encode (.memWrseq d)) .tWr } ∧
        exec (.memWrseq d) s = .next t ∧
        step t = .next (State.deliver { t with trace := t.trace ++ [.wait .tWr] } 0x00000000))

/-- R103, MEM_RDAT: UNINITIALISED, then INVALID_ARGUMENT for an offset above 0x7FFF or an absent destination before
any I/O, then the two frames in order; the cursor is not changed. -/
def Obligations.MemRdatReadsTheOffset : Prop :=
  ∀ (s : State) (a : Half) (nd : Bool),
    (encode (.memRdat a nd)).toNat = a.toNat * 0x10000 + nd.toNat * 0x10 + 0xA ∧
    (s.memValid = false → exec (.memRdat a nd) s = .next (s.deliver 0x00000006)) ∧
    (s.memValid = true → 0x7FFF < a.toNat ∨ nd = true →
      exec (.memRdat a nd) s = .next (s.deliver 0x00000002)) ∧
    (∀ rest, s.memValid = true → a.toNat ≤ 0x7FFF → nd = false → s.answers = .fail :: rest →
      exec (.memRdat a nd) s = .next (State.deliver { s with
        answers := rest
        trace := s.trace ++ [.transfer (.tx (writeAddress s.memAddr)
          [a.extractLsb' 8 8, a.extractLsb' 0 8] 2 .tBus) .fail] } 0x00000001)) ∧
    (∀ x y rest, s.memValid = true → a.toNat ≤ 0x7FFF → nd = false → s.answers = .ok x y :: .fail :: rest →
      exec (.memRdat a nd) s = .next (State.deliver { s with
        answers := rest
        trace := s.trace ++ [.transfer (.tx (writeAddress s.memAddr)
          [a.extractLsb' 8 8, a.extractLsb' 0 8] 2 .tBus) (.ok []),
          .transfer (.rx (readAddress s.memAddr) 2 .tBus) .fail] } 0x00000001)) ∧
    (∀ x y b0 b1 rest, s.memValid = true → a.toNat ≤ 0x7FFF → nd = false →
      s.answers = .ok x y :: .ok b0 b1 :: rest →
      exec (.memRdat a nd) s = .next (State.deliver { s with
        answers := rest
        trace := s.trace ++ [.transfer (.tx (writeAddress s.memAddr)
          [a.extractLsb' 8 8, a.extractLsb' 0 8] 2 .tBus) (.ok []),
          .transfer (.rx (readAddress s.memAddr) 2 .tBus) (.ok [b0, b1])] } (b0 ++ b1 ++ 0x0008#16)))

/-- R104, MEM_CURSOR: UNINITIALISED before MEM_INIT; then the cursor, with no register change and no request. -/
def Obligations.MemCursorDeliversTheCursor : Prop :=
  (encode .memCursor).toNat = 0x0000000B ∧ ∀ s : State,
    (s.memValid = false → exec .memCursor s = .next (s.deliver 0x00000006)) ∧
    (s.memValid = true → exec .memCursor s = .next (s.deliver (s.cursor ++ 0x0008#16)))

/-! ### Responses, refusals and the machine by phase -/

/-- R62, R63: the fields of a response word, and the status codes; no status has code 4 or 5. -/
def Obligations.ResponseWordFields : Prop :=
  (∀ (d : Half) (r : ResCode) (dv : Bool) (t : Status),
    respData (responseWord d r dv t) = d ∧ respRsv (responseWord d r dv t) = 0 ∧
    respRes (responseWord d r dv t) = r ∧ respDv (responseWord d r dv t) = dv ∧
    respStatus (responseWord d r dv t) = t.code) ∧
  Status.ok.code = 0 ∧ Status.transportError.code = 1 ∧ Status.invalidArgument.code = 2 ∧
  Status.deviceNotReady.code = 3 ∧ Status.uninitialised.code = 6 ∧ Status.illegalCommand.code = 7

/-- R125: what delivering a response does: the word, `PHASE <- IDLE`, `CMD_IDX <- CMD_IDX + 1`, nothing else. -/
def Obligations.DeliveryEndsTheCommand : Prop :=
  ∀ (s : State) (r : Word),
    s.deliver r = { s with responses := s.responses ++ [r], sequencer := .idle, cmdIdx := s.cmdIdx + 1 }

/-- R108: each of the seven commands that need their unit constructed is answered 0x00000006 while its valid bit is
0, with no register write, no bus request and no wait. -/
def Obligations.UninitialisedUnitIsRefused : Prop :=
  ∀ (s : State) (i : Instr),
    (isSensorCommand i = true → (∀ a, i ≠ .tsInit a) → s.tsValid = false →
      exec i s = .next (s.deliver 0x00000006)) ∧
    (isSensorCommand i = false → (∀ a, i ≠ .memInit a) → s.memValid = false →
      exec i s = .next (s.deliver 0x00000006))

/-- R109: a word that fails R60 is answered 0x00000007 whatever else holds; no register changes, no request is made,
no wait happens, and `CMD_IDX` advances. -/
def Obligations.IllegalWordIsRefused : Prop :=
  ∀ (s : State) (w : Word), s.sequencer = .exec w → legal w = false →
    step s = .next { s with responses := s.responses ++ [0x00000007], sequencer := .idle, cmdIdx := s.cmdIdx + 1 }

/-- In EXEC the machine runs the command in `CUR`: step is exec of the decoded command, with nothing around it. -/
def Obligations.StepRunsTheDecodedCommand : Prop :=
  ∀ (s : State) (w : Word) (i : Instr), s.sequencer = .exec w → decode w = .ok i → step s = exec i s

/-- In IDLE the host's word at `CMD_IDX` is accepted and nothing else changes; with no word there the TLPB stays
IDLE. The stream as a list in the state is the model's (log entry 8). -/
def Obligations.IdleAcceptsTheWordAtCmdIdx : Prop :=
  ∀ s : State, s.sequencer = .idle →
    (∀ w, s.stream[s.cmdIdx]? = some w → step s = .next { s with sequencer := .exec w }) ∧
    (s.stream[s.cmdIdx]? = none → step s = .next s)

/-- R31: in WAIT one step of the delay unit ends the wait and delivers the OK response; the response is not there
before. -/
def Obligations.WaitEndsWithTheResponse : Prop :=
  ∀ (s : State) (w : Word) (t : Duration), s.sequencer = .wait w t →
    step s = .next (State.deliver { s with trace := s.trace ++ [.wait t] } 0x00000000)

/-- A transport that never answers leaves the sequencer in BUS for ever (R126): any number of steps changes
nothing. The answers as a list in the state are the model's (log entries 2 and 3). -/
def Obligations.SilentTransportHangsInBus : Prop :=
  ∀ (s : State) (w : Word) (p : Position) (k : Nat), s.sequencer = .bus w p → s.answers = [] →
    stepTimes k s = .next s

/-- A command whose request meets no answer stays in BUS with that request outstanding, its registers unwritten but
for the address TS_INIT has stored (R77, R78; log entry 3). -/
def Obligations.UnansweredRequestStaysOutstanding : Prop :=
  ∀ s : State, s.answers = [] →
    (∀ a, exec (.tsInit a) s =
      .next { s with tsAddr := a, sequencer := .bus (encode (.tsInit a)) .tsInitPtr }) ∧
    (s.tsValid = true →
      (∀ v, exec (.tsWrcfg v) s = .next { s with sequencer := .bus (encode (.tsWrcfg v)) (.tsWrcfgWr v) }) ∧
      exec .tsTrig s = .next { s with sequencer := .bus (encode .tsTrig) .tsTrigPtr } ∧
      exec (.tsRdraw false) s = .next { s with sequencer := .bus (encode (.tsRdraw false)) .tsRdrawPtr }) ∧
    (s.memValid = true →
      (∀ d, exec (.memWrseq d) s = .next { s with sequencer := .bus (encode (.memWrseq d)) (.memWrseqWr d) }) ∧
      ∀ a : Half, a.toNat ≤ 0x7FFF →
        exec (.memRdat a false) s = .next { s with sequencer := .bus (encode (.memRdat a false)) (.memRdatPtr a) })

/-- When the transport answers makes no difference (R30, R49; log entries 2 and 4): a command that runs out of answers
in BUS and gets more later ends as it would have had they been there from the start. -/
def Obligations.LateAnswersMakeNoDifference : Prop :=
  ∀ (i : Instr) (s t : State) (early late : List Answer),
    exec i (s.setAnswers early) = .next t → t.phase = .bus →
    step (t.setAnswers late) = exec i (s.setAnswers (early ++ late))

/-- Every step answers a next state: the block is total on every command stream (R60, R106). -/
def Obligations.EveryStepAnswersANextState : Prop :=
  ∀ s : State, ∃ t, step s = .next t

/-! ### Reset and the invariants -/

/-- R34: what power-on reset leaves. The registers the spec gives no value are not named. -/
def Obligations.ResetLeavesBothUnitsInvalid : Prop :=
  State.reset.tsValid = false ∧ State.reset.memValid = false ∧ State.reset.phase = .idle ∧
  State.reset.cmdIdx = 0 ∧ State.reset.cur = none

/-- The invariant holds at reset. -/
def Obligations.InvariantHoldsAtReset : Prop := State.reset.Inv

/-- Every step keeps the invariant: the cursor's range, one response per command, the command in progress, a legal
sequencer, legal responses and legal bus requests. -/
def Obligations.EveryStepKeepsTheInvariant : Prop :=
  ∀ s t : State, s.Inv → step s = .next t → t.Inv

/-- R26: whenever `MEM_VALID = 1` the cursor is at most 0x7FFF, so its bit 15 is 0. It holds at reset, and every
step keeps it. -/
def Obligations.CursorStaysInRange : Prop :=
  (State.reset.memValid = true → State.reset.cursor.toNat ≤ 0x7FFF) ∧
  (∀ s t : State, (s.memValid = true → s.cursor.toNat ≤ 0x7FFF) → step s = .next t →
    t.memValid = true → t.cursor.toNat ≤ 0x7FFF ∧ t.cursor.getLsbD 15 = false)

/-- R21: `CMD_IDX` is 0 at reset; a step delivers no response and leaves it, or delivers one and adds 1, whatever
the response's status. -/
def Obligations.CmdIdxCountsTheResponses : Prop :=
  State.reset.cmdIdx = 0 ∧
  ∀ s t : State, step s = .next t →
    (t.responses = s.responses ∧ t.cmdIdx = s.cmdIdx) ∨
    ∃ r, t.responses = s.responses ++ [r] ∧ t.cmdIdx = s.cmdIdx + 1 ∧ t.phase = .idle

/-- What no step of any agent does: change the host's stream or the strap, take the transport's answers out of order,
or take back a delivered response or a recorded event (R8, R49, R126, R127). These four are the model's own
bookkeeping: the strap in the state (log entry 7), the stream in the state (log entry 8), the answers as a list taken
from its front (log entry 2), the record (log entry 11). -/
def Obligations.StepsOnlyExtendTheRecord : Prop :=
  ∀ s t : State, step s = .next t →
    t.stream = s.stream ∧ t.trigUpdatesCache = s.trigUpdatesCache ∧ t.answers <:+ s.answers ∧
    s.responses <+: t.responses ∧ s.trace <+: t.trace

/-- R113: an error leaves the six registers as they were before the command: the step that delivers it changes none,
and neither did a step that left the command in BUS (TS_INIT, which has no error, apart). -/
def Obligations.ErrorsLeaveTheRegisters : Prop :=
  (∀ (s t : State) (r : Word), step s = .next t → t.responses = s.responses ++ [r] → respStatus r ≠ 0 →
    t.registers = s.registers) ∧
  (∀ (i : Instr) (s t : State), (∀ a, i ≠ .tsInit a) → exec i s = .next t → t.phase = .bus →
    t.registers = s.registers) ∧
  (∀ s t : State, s.phase = .bus → step s = .next t → t.phase = .bus → t.registers = s.registers)

/-- R107: which statuses each command's response may carry, in every step from a state with a legal sequencer: OK
alone for the two constructors, OK or UNINITIALISED for TS_CONV and MEM_CURSOR, INVALID_ARGUMENT only from the two
reads, DEVICE_NOT_READY only from TS_TRIG, ILLEGAL_COMMAND from none. -/
def Obligations.StatusesByCommand : Prop :=
  ∀ (i : Instr) (s t : State) (r : Word), SequencerLegal s → s.cur = some (encode i) → step s = .next t →
    t.responses = s.responses ++ [r] → ∃ e ∈ statuses i, respStatus r = e.code

/-- Which commands write which of the six registers (R20, R22 to R25), for every step from a state with a legal
sequencer: `TS_VALID` and `TS_ADDR` only TS_INIT, `MEM_VALID` and `MEM_ADDR` only MEM_INIT, `TS_RES` only TS_INIT,
TS_WRCFG and, with `TRIG_UPDATES_CACHE` true, TS_TRIG, `CURSOR` only MEM_INIT and MEM_WRSEQ. A valid bit is never
taken back. -/
def Obligations.EachRegisterHasItsWriters : Prop :=
  ∀ s t : State, SequencerLegal s → step s = .next t →
    (t.tsValid ≠ s.tsValid → t.tsValid = true ∧ ∃ a, s.cur = some (encode (.tsInit a))) ∧
    (t.memValid ≠ s.memValid → t.memValid = true ∧ ∃ a, s.cur = some (encode (.memInit a))) ∧
    (t.tsAddr ≠ s.tsAddr → s.cur = some (encode (.tsInit t.tsAddr))) ∧
    (t.memAddr ≠ s.memAddr → s.cur = some (encode (.memInit t.memAddr))) ∧
    (t.tsRes ≠ s.tsRes → (∃ a, s.cur = some (encode (.tsInit a))) ∨
      (∃ v, s.cur = some (encode (.tsWrcfg v)) ∧ t.tsRes = resOf v) ∨
      (s.cur = some (encode .tsTrig) ∧ s.trigUpdatesCache = true)) ∧
    (t.cursor ≠ s.cursor → (∃ a, s.cur = some (encode (.memInit a)) ∧ t.cursor = 0) ∨
      (∃ d, s.cur = some (encode (.memWrseq d)) ∧ t.cursor = nextCursor s.cursor))

/-! ### Frames -/

/-- What the TS commands leave unchanged, in every next state: the SMU's registers, the host's stream and the strap;
TS_INIT alone writes `TS_ADDR` and `TS_VALID`; TS_RDRAW and TS_CONV write no register; TS_CONV makes no request. -/
def Obligations.SensorCommandsFrame : Prop :=
  ∀ (i : Instr) (s t : State), isSensorCommand i = true → exec i s = .next t →
    t.memValid = s.memValid ∧ t.memAddr = s.memAddr ∧ t.cursor = s.cursor ∧
    t.stream = s.stream ∧ t.trigUpdatesCache = s.trigUpdatesCache ∧
    ((∀ a, i ≠ .tsInit a) → t.tsAddr = s.tsAddr ∧ t.tsValid = s.tsValid) ∧
    ((∃ nd, i = .tsRdraw nd) → t.registers = s.registers) ∧
    ((∃ raw, i = .tsConv raw) → t.registers = s.registers ∧ t.trace = s.trace ∧ t.answers = s.answers)

/-- What the MEM commands leave unchanged, in every next state: the TSU's registers, the host's stream and the strap;
MEM_INIT alone writes `MEM_ADDR` and `MEM_VALID`; MEM_RDAT and MEM_CURSOR write no register; MEM_INIT and MEM_CURSOR
make no request. -/
def Obligations.MemoryCommandsFrame : Prop :=
  ∀ (i : Instr) (s t : State), isSensorCommand i = false → exec i s = .next t →
    t.tsValid = s.tsValid ∧ t.tsAddr = s.tsAddr ∧ t.tsRes = s.tsRes ∧
    t.stream = s.stream ∧ t.trigUpdatesCache = s.trigUpdatesCache ∧
    ((∀ a, i ≠ .memInit a) → t.memAddr = s.memAddr ∧ t.memValid = s.memValid) ∧
    ((∃ a nd, i = .memRdat a nd) ∨ i = .memCursor → t.registers = s.registers) ∧
    ((∃ a, i = .memInit a) ∨ i = .memCursor → t.trace = s.trace ∧ t.answers = s.answers)

/-- R42: the requests a command makes are its row of the frame table, in order and with its payload lengths: those
answered and the one outstanding are a first part of the row, and all of it when the command has come to its wait or
to an OK response (TS_INIT's fallback apart). -/
def Obligations.CommandsMakeTheirFramesInOrder : Prop :=
  ∀ (i : Instr) (s t : State), exec i s = .next t →
    ∃ made : List Event, t.trace = s.trace ++ made ∧
      (made.map Event.shape ++ t.outstanding) <+: frameShapes i ∧
      (t.phase = .wait ∨ (∃ r, t.responses = s.responses ++ [r] ∧ respStatus r = 0 ∧ ∀ a, i ≠ .tsInit a) →
        made.map Event.shape = frameShapes i)

/-- The units know nothing of each other (R2, R121): a TS command does the same whatever the SMU's registers hold,
and a MEM command whatever the TSU's hold. -/
def Obligations.UnitsDoNotReadEachOther : Prop :=
  ∀ (i : Instr) (s t : State), exec i s = .next t →
    (isSensorCommand i = true → ∀ v a c, exec i (s.withMemUnit v a c) = .next (t.withMemUnit v a c)) ∧
    (isSensorCommand i = false → ∀ v a r, exec i (s.withSensorUnit v a r) = .next (t.withSensorUnit v a r))

/-! ### The reference devices -/

/-- On the platform with the reference devices (R48): every step keeps the items' canonical form and a legal
sequencer, and the memory is in its write cycle only while the TLPB waits for it, so no request meets it busy. -/
def Obligations.NoRequestMeetsTheWriteCycle : Prop :=
  (∀ p : Platform, p.Safe → p.step.Safe) ∧
  (∀ p : Platform, p.Safe → p.chip.phase = .bus → p.memory.busy = false)

/-- An append on the platform (R102 with R48): with no failure injected, three steps from EXEC store the data at the
cursor's offset and nowhere else, advance the cursor and answer OK. For a cursor above 0x7FFF, which no run reaches
(R26), it rests on the model's choice of log entry 22. -/
def Obligations.AppendStoresAtTheCursor : Prop :=
  ∀ (p : Platform) (d : Half) (x : Draw) (rest : List Draw),
    p.chip.sequencer = .exec (encode (.memWrseq d)) → p.chip.memValid = true →
    p.chip.memAddr = p.memory.addr → p.memory.addr ≠ p.sensor.addr → p.memory.busy = false →
    itemsWf p.memory.items = true → p.draws = x :: rest → x.failed = false →
    (p.run 3).chip.responses = p.chip.responses ++ [0x00000000] ∧ (p.run 3).chip.phase = .idle ∧
    (p.run 3).chip.cursor = nextCursor p.chip.cursor ∧ (p.run 3).memory.busy = false ∧
    (p.run 3).draws = rest ∧ (p.run 3).sensor = p.sensor ∧
    itemAt (p.run 3).memory.items p.chip.cursor.toNat = d ∧
    ∀ a, a ≠ p.chip.cursor.toNat → itemAt (p.run 3).memory.items a = itemAt p.memory.items a

/-- A read on the platform (R103 with R48): with no failure injected, three steps from EXEC answer the item at the
offset, and change no item and no register. -/
def Obligations.ReadReturnsTheStoredItem : Prop :=
  ∀ (p : Platform) (a : Half) (x y : Draw) (rest : List Draw),
    p.chip.sequencer = .exec (encode (.memRdat a false)) → p.chip.memValid = true → a.toNat ≤ 0x7FFF →
    p.chip.memAddr = p.memory.addr → p.memory.addr ≠ p.sensor.addr → p.memory.busy = false →
    p.draws = x :: y :: rest → x.failed = false → y.failed = false →
    (p.run 3).chip.responses = p.chip.responses ++ [itemAt p.memory.items a.toNat ++ 0x0008#16] ∧
    (p.run 3).chip.phase = .idle ∧ (p.run 3).chip.registers = p.chip.registers ∧
    (p.run 3).memory.items = p.memory.items ∧ (p.run 3).draws = rest

/-- A failed append on the platform (R43, R102, R140): two steps from EXEC answer TRANSPORT_ERROR and leave every
register, so the cursor too; the memory holds any value at the cursor's offset, the draw's, and every other item as
before; no write cycle begins. For a cursor above 0x7FFF, which no run reaches (R26), it rests on the model's choice of
log entry 22. -/
def Obligations.FailedAppendSpoilsItsItemAlone : Prop :=
  ∀ (p : Platform) (d : Half) (x : Draw) (rest : List Draw),
    p.chip.sequencer = .exec (encode (.memWrseq d)) → p.chip.memValid = true →
    p.chip.memAddr = p.memory.addr → p.memory.addr ≠ p.sensor.addr → p.memory.busy = false →
    itemsWf p.memory.items = true → p.draws = x :: rest → x.failed = true →
    (p.run 2).chip.responses = p.chip.responses ++ [0x00000001] ∧ (p.run 2).chip.phase = .idle ∧
    (p.run 2).chip.registers = p.chip.registers ∧ (p.run 2).memory.busy = false ∧
    (p.run 2).draws = rest ∧ (p.run 2).sensor = p.sensor ∧ itemsWf (p.run 2).memory.items = true ∧
    itemAt (p.run 2).memory.items p.chip.cursor.toNat = x.remains.item ∧
    ∀ a, a ≠ p.chip.cursor.toNat → itemAt (p.run 2).memory.items a = itemAt p.memory.items a

/-- A failed configuration write on the platform (R43, R94): two steps from EXEC answer TRANSPORT_ERROR and leave every
register, so the cached code too; the sensor's three registers hold any values, the draw's, and the memory is as
before. -/
def Obligations.FailedConfigurationWriteKeepsTheCache : Prop :=
  ∀ (p : Platform) (v : Byte) (x : Draw) (rest : List Draw),
    p.chip.sequencer = .exec (encode (.tsWrcfg v)) → p.chip.tsValid = true →
    p.chip.tsAddr = p.sensor.addr → p.draws = x :: rest → x.failed = true →
    (p.run 2).chip.responses = p.chip.responses ++ [0x00000001] ∧ (p.run 2).chip.phase = .idle ∧
    (p.run 2).chip.registers = p.chip.registers ∧ (p.run 2).draws = rest ∧ (p.run 2).memory = p.memory ∧
    (p.run 2).sensor =
      { p.sensor with ptr := x.remains.ptr, cfg := x.remains.cfg, temp := x.remains.temp }

/-- The source's round trip (R105, 1) with the reference memory: N values appended from cursor 0 and then N reads of
offsets 0 to N-1 answer those values in order. -/
def Obligations.AppendedValuesReadBack : Prop :=
  ∀ (p : Platform) (ds : List Half),
    ds.length ≤ 0x8000 → p.chip.sequencer = .idle → p.chip.memValid = true → p.chip.cursor = 0 →
    p.chip.memAddr = p.memory.addr → p.memory.addr ≠ p.sensor.addr → p.memory.busy = false →
    itemsWf p.memory.items = true →
    p.chip.stream.drop p.chip.cmdIdx =
      ds.map (fun d => encode (.memWrseq d)) ++
        (List.range ds.length).map (fun i => encode (.memRdat (BitVec.ofNat 16 i) false)) →
    p.draws.length = 3 * ds.length → (∀ x ∈ p.draws, x.failed = false) →
    (p.run (8 * ds.length)).chip.responses =
      p.chip.responses ++ List.replicate ds.length 0x00000000 ++ ds.map (fun d => d ++ 0x0008#16)
end

