-- ==== Sys2Proof/Laws/Decode.lean ====
section
/-! SUPPORT. The fields of a command word that the encoder builds, and a word as the encoder of its own fields: the bit
facts under the encoding statements. -/

namespace Sys2Proof

theorem operandOf_commandWord (x : Half) (nd : Bool) (op : BitVec 4) : operandOf (commandWord x nd op) = x := by
  apply BitVec.eq_of_getLsbD_eq
  intro i hi
  simp only [operandOf, commandWord, BitVec.getLsbD_extractLsb', BitVec.getLsbD_append]
  interval_cases i <;> simp

theorem rsvOf_commandWord (x : Half) (nd : Bool) (op : BitVec 4) : rsvOf (commandWord x nd op) = 0 := by
  apply BitVec.eq_of_getLsbD_eq
  intro i hi
  simp only [rsvOf, commandWord, BitVec.getLsbD_extractLsb', BitVec.getLsbD_append]
  interval_cases i <;> simp

theorem nodstOf_commandWord (x : Half) (nd : Bool) (op : BitVec 4) : nodstOf (commandWord x nd op) = nd := by
  simp only [nodstOf, commandWord, BitVec.getLsbD_append]
  simp

theorem opOf_commandWord (x : Half) (nd : Bool) (op : BitVec 4) : opOf (commandWord x nd op) = op := by
  apply BitVec.eq_of_getLsbD_eq
  intro i hi
  simp only [opOf, commandWord, BitVec.getLsbD_extractLsb', BitVec.getLsbD_append]
  interval_cases i <;> simp

/-- A word whose reserved bits are 0 is the command word of its own fields. -/
theorem commandWord_fields {w : Word} (h : rsvOf w = 0) :
    commandWord (operandOf w) (nodstOf w) (opOf w) = w := by
  have hr : ∀ j, 5 ≤ j → j < 16 → w.getLsbD j = false := by
    intro j hj hj'
    have := congrArg (fun v => BitVec.getLsbD v (j - 5)) h
    simp only [rsvOf, BitVec.getLsbD_extractLsb'] at this
    rw [show 5 + (j - 5) = j by omega] at this
    simpa [show j - 5 < 11 by omega] using this
  apply BitVec.eq_of_getLsbD_eq
  intro i hi
  simp only [operandOf, nodstOf, opOf, commandWord, BitVec.getLsbD_extractLsb', BitVec.getLsbD_append,
    BitVec.getLsbD_ofBool]
  split_ifs with h1 h2 h3
  · simp [h1]
  · simp [show i = 4 by omega]
  · simp [hr i (by omega) (by omega)]
  · simp only [show i - 4 - 1 - 11 < 16 by omega, decide_true, Bool.true_and]
    congr 1; omega

/-- An operand with no bit at position n or above is the extension of its low n bits. -/
theorem operand_of_lowBits {x : Half} {n : Nat} (h : x.toNat < 2 ^ n) :
    (x.extractLsb' 0 n).setWidth 16 = x := by
  apply BitVec.eq_of_toNat_eq
  simp [BitVec.extractLsb'_toNat, Nat.mod_eq_of_lt h, Nat.mod_eq_of_lt x.isLt]

end Sys2Proof
end

