-- ==== Sys2Proof/Laws/Items.lean ====
section
/-! SUPPORT. The laws of the reference memory's items: a read after a write, and the canonical form kept by every write. -/

namespace Sys2Proof.Machine

/-- Every offset listed is above a. -/
def itemsAbove (a : Nat) (m : Items) : Prop := ∀ c ∈ m, a < c.1

theorem itemsWf_cons {a : Nat} {v : Half} {m : Items} :
    itemsWf ((a, v) :: m) = true ↔ v ≠ 0 ∧ itemsAbove a m ∧ itemsWf m = true := by
  simp [itemsWf, itemsAbove, and_assoc]

theorem itemsWf_nil : itemsWf [] = true := rfl

theorem itemAt_above {a : Nat} {m : Items} (h : itemsAbove a m) : itemAt m a = 0 := by
  induction m with
  | nil => rfl
  | cons c m ih =>
    have hc : a < c.1 := h c (by simp)
    simp [itemAt, Nat.ne_of_lt hc, ih (fun d hd => h d (by simp [hd]))]

theorem itemAt_putFirst (a b : Nat) (v : Half) (m : Items) (h : itemsAbove a m) :
    itemAt (putFirst a v m) b = if b = a then v else itemAt m b := by
  unfold putFirst
  split
  · next hv => split
               · next hb => rw [hb, itemAt_above h, hv]
               · rfl
  · simp [itemAt]

/-- A read after a write: the item written at its offset, every other item as before. -/
theorem itemAt_writeItem (m : Items) (hm : itemsWf m = true) (a b : Nat) (v : Half) :
    itemAt (writeItem m a v) b = if b = a then v else itemAt m b := by
  induction m with
  | nil => exact itemAt_putFirst a b v [] (by simp [itemsAbove])
  | cons c m ih =>
    obtain ⟨k, x⟩ := c
    obtain ⟨hx, hk, hm'⟩ := itemsWf_cons.mp hm
    unfold writeItem
    split
    · next hlt =>
      apply itemAt_putFirst
      intro d hd
      rcases List.mem_cons.mp hd with rfl | hd
      · exact hlt
      · exact Nat.lt_trans hlt (hk d hd)
    · split
      · next heq =>
        subst heq
        rw [itemAt_putFirst _ _ _ _ hk]
        split <;> simp_all [itemAt]
      · next hne =>
        simp only [itemAt, ih hm']
        split
        · next hb => subst hb; simp [Ne.symm hne]
        · rfl

theorem itemsAbove_writeItem {k a : Nat} {v : Half} {m : Items} (h : itemsAbove k m) (ha : k < a) :
    itemsAbove k (writeItem m a v) := by
  induction m with
  | nil =>
    intro d hd
    unfold writeItem putFirst at hd
    split at hd <;> simp_all
  | cons c m ih =>
    obtain ⟨b, x⟩ := c
    have hb : k < b := h (b, x) (by simp)
    have hm : itemsAbove k m := fun d hd => h d (by simp [hd])
    intro d hd
    unfold writeItem putFirst at hd
    split_ifs at hd with h1 h2 h3 h4
    · exact h d hd
    · rcases List.mem_cons.mp hd with rfl | hd
      · exact ha
      · exact h d hd
    · exact hm d hd
    · rcases List.mem_cons.mp hd with rfl | hd
      · exact ha
      · exact hm d hd
    · rcases List.mem_cons.mp hd with rfl | hd
      · exact hb
      · exact ih hm d hd

/-- Every write keeps the canonical form. -/
theorem itemsWf_writeItem (m : Items) (hm : itemsWf m = true) (a : Nat) (v : Half) :
    itemsWf (writeItem m a v) = true := by
  induction m with
  | nil =>
    unfold writeItem putFirst
    split
    · rfl
    · next hv => exact itemsWf_cons.mpr ⟨hv, by simp [itemsAbove], rfl⟩
  | cons c m ih =>
    obtain ⟨b, x⟩ := c
    obtain ⟨hx, hk, hm'⟩ := itemsWf_cons.mp hm
    unfold writeItem putFirst
    split_ifs with h1 h2 h3 h4
    · exact hm
    · refine itemsWf_cons.mpr ⟨h2, ?_, hm⟩
      intro d hd
      rcases List.mem_cons.mp hd with rfl | hd
      · exact h1
      · exact Nat.lt_trans h1 (hk d hd)
    · exact hm'
    · subst h3; exact itemsWf_cons.mpr ⟨h4, hk, hm'⟩
    · exact itemsWf_cons.mpr ⟨hx, itemsAbove_writeItem hk (by omega), ih hm'⟩

end Sys2Proof.Machine
end

