-- ==== Sys2Proof/Laws/State.lean ====
section
/-! SUPPORT. What each named update of the state does to each field. -/

namespace Sys2Proof.Machine

/-! ### State.setTsValid -/

@[simp] theorem State.setTsValid_tsValid (s : State) (v : Bool) : (s.setTsValid v).tsValid = v := rfl
@[simp] theorem State.setTsValid_tsAddr (s : State) (v : Bool) : (s.setTsValid v).tsAddr = s.tsAddr := rfl
@[simp] theorem State.setTsValid_tsRes (s : State) (v : Bool) : (s.setTsValid v).tsRes = s.tsRes := rfl
@[simp] theorem State.setTsValid_memValid (s : State) (v : Bool) : (s.setTsValid v).memValid = s.memValid := rfl
@[simp] theorem State.setTsValid_memAddr (s : State) (v : Bool) : (s.setTsValid v).memAddr = s.memAddr := rfl
@[simp] theorem State.setTsValid_cursor (s : State) (v : Bool) : (s.setTsValid v).cursor = s.cursor := rfl
@[simp] theorem State.setTsValid_cmdIdx (s : State) (v : Bool) : (s.setTsValid v).cmdIdx = s.cmdIdx := rfl
@[simp] theorem State.setTsValid_sequencer (s : State) (v : Bool) : (s.setTsValid v).sequencer = s.sequencer := rfl
@[simp] theorem State.setTsValid_stream (s : State) (v : Bool) : (s.setTsValid v).stream = s.stream := rfl
@[simp] theorem State.setTsValid_responses (s : State) (v : Bool) : (s.setTsValid v).responses = s.responses := rfl
@[simp] theorem State.setTsValid_answers (s : State) (v : Bool) : (s.setTsValid v).answers = s.answers := rfl
@[simp] theorem State.setTsValid_trace (s : State) (v : Bool) : (s.setTsValid v).trace = s.trace := rfl
@[simp] theorem State.setTsValid_trigUpdatesCache (s : State) (v : Bool) : (s.setTsValid v).trigUpdatesCache = s.trigUpdatesCache := rfl

/-! ### State.setTsAddr -/

@[simp] theorem State.setTsAddr_tsValid (s : State) (v : Addr7) : (s.setTsAddr v).tsValid = s.tsValid := rfl
@[simp] theorem State.setTsAddr_tsAddr (s : State) (v : Addr7) : (s.setTsAddr v).tsAddr = v := rfl
@[simp] theorem State.setTsAddr_tsRes (s : State) (v : Addr7) : (s.setTsAddr v).tsRes = s.tsRes := rfl
@[simp] theorem State.setTsAddr_memValid (s : State) (v : Addr7) : (s.setTsAddr v).memValid = s.memValid := rfl
@[simp] theorem State.setTsAddr_memAddr (s : State) (v : Addr7) : (s.setTsAddr v).memAddr = s.memAddr := rfl
@[simp] theorem State.setTsAddr_cursor (s : State) (v : Addr7) : (s.setTsAddr v).cursor = s.cursor := rfl
@[simp] theorem State.setTsAddr_cmdIdx (s : State) (v : Addr7) : (s.setTsAddr v).cmdIdx = s.cmdIdx := rfl
@[simp] theorem State.setTsAddr_sequencer (s : State) (v : Addr7) : (s.setTsAddr v).sequencer = s.sequencer := rfl
@[simp] theorem State.setTsAddr_stream (s : State) (v : Addr7) : (s.setTsAddr v).stream = s.stream := rfl
@[simp] theorem State.setTsAddr_responses (s : State) (v : Addr7) : (s.setTsAddr v).responses = s.responses := rfl
@[simp] theorem State.setTsAddr_answers (s : State) (v : Addr7) : (s.setTsAddr v).answers = s.answers := rfl
@[simp] theorem State.setTsAddr_trace (s : State) (v : Addr7) : (s.setTsAddr v).trace = s.trace := rfl
@[simp] theorem State.setTsAddr_trigUpdatesCache (s : State) (v : Addr7) : (s.setTsAddr v).trigUpdatesCache = s.trigUpdatesCache := rfl

/-! ### State.setTsRes -/

@[simp] theorem State.setTsRes_tsValid (s : State) (v : ResCode) : (s.setTsRes v).tsValid = s.tsValid := rfl
@[simp] theorem State.setTsRes_tsAddr (s : State) (v : ResCode) : (s.setTsRes v).tsAddr = s.tsAddr := rfl
@[simp] theorem State.setTsRes_tsRes (s : State) (v : ResCode) : (s.setTsRes v).tsRes = v := rfl
@[simp] theorem State.setTsRes_memValid (s : State) (v : ResCode) : (s.setTsRes v).memValid = s.memValid := rfl
@[simp] theorem State.setTsRes_memAddr (s : State) (v : ResCode) : (s.setTsRes v).memAddr = s.memAddr := rfl
@[simp] theorem State.setTsRes_cursor (s : State) (v : ResCode) : (s.setTsRes v).cursor = s.cursor := rfl
@[simp] theorem State.setTsRes_cmdIdx (s : State) (v : ResCode) : (s.setTsRes v).cmdIdx = s.cmdIdx := rfl
@[simp] theorem State.setTsRes_sequencer (s : State) (v : ResCode) : (s.setTsRes v).sequencer = s.sequencer := rfl
@[simp] theorem State.setTsRes_stream (s : State) (v : ResCode) : (s.setTsRes v).stream = s.stream := rfl
@[simp] theorem State.setTsRes_responses (s : State) (v : ResCode) : (s.setTsRes v).responses = s.responses := rfl
@[simp] theorem State.setTsRes_answers (s : State) (v : ResCode) : (s.setTsRes v).answers = s.answers := rfl
@[simp] theorem State.setTsRes_trace (s : State) (v : ResCode) : (s.setTsRes v).trace = s.trace := rfl
@[simp] theorem State.setTsRes_trigUpdatesCache (s : State) (v : ResCode) : (s.setTsRes v).trigUpdatesCache = s.trigUpdatesCache := rfl

/-! ### State.setMemValid -/

@[simp] theorem State.setMemValid_tsValid (s : State) (v : Bool) : (s.setMemValid v).tsValid = s.tsValid := rfl
@[simp] theorem State.setMemValid_tsAddr (s : State) (v : Bool) : (s.setMemValid v).tsAddr = s.tsAddr := rfl
@[simp] theorem State.setMemValid_tsRes (s : State) (v : Bool) : (s.setMemValid v).tsRes = s.tsRes := rfl
@[simp] theorem State.setMemValid_memValid (s : State) (v : Bool) : (s.setMemValid v).memValid = v := rfl
@[simp] theorem State.setMemValid_memAddr (s : State) (v : Bool) : (s.setMemValid v).memAddr = s.memAddr := rfl
@[simp] theorem State.setMemValid_cursor (s : State) (v : Bool) : (s.setMemValid v).cursor = s.cursor := rfl
@[simp] theorem State.setMemValid_cmdIdx (s : State) (v : Bool) : (s.setMemValid v).cmdIdx = s.cmdIdx := rfl
@[simp] theorem State.setMemValid_sequencer (s : State) (v : Bool) : (s.setMemValid v).sequencer = s.sequencer := rfl
@[simp] theorem State.setMemValid_stream (s : State) (v : Bool) : (s.setMemValid v).stream = s.stream := rfl
@[simp] theorem State.setMemValid_responses (s : State) (v : Bool) : (s.setMemValid v).responses = s.responses := rfl
@[simp] theorem State.setMemValid_answers (s : State) (v : Bool) : (s.setMemValid v).answers = s.answers := rfl
@[simp] theorem State.setMemValid_trace (s : State) (v : Bool) : (s.setMemValid v).trace = s.trace := rfl
@[simp] theorem State.setMemValid_trigUpdatesCache (s : State) (v : Bool) : (s.setMemValid v).trigUpdatesCache = s.trigUpdatesCache := rfl

/-! ### State.setMemAddr -/

@[simp] theorem State.setMemAddr_tsValid (s : State) (v : Addr7) : (s.setMemAddr v).tsValid = s.tsValid := rfl
@[simp] theorem State.setMemAddr_tsAddr (s : State) (v : Addr7) : (s.setMemAddr v).tsAddr = s.tsAddr := rfl
@[simp] theorem State.setMemAddr_tsRes (s : State) (v : Addr7) : (s.setMemAddr v).tsRes = s.tsRes := rfl
@[simp] theorem State.setMemAddr_memValid (s : State) (v : Addr7) : (s.setMemAddr v).memValid = s.memValid := rfl
@[simp] theorem State.setMemAddr_memAddr (s : State) (v : Addr7) : (s.setMemAddr v).memAddr = v := rfl
@[simp] theorem State.setMemAddr_cursor (s : State) (v : Addr7) : (s.setMemAddr v).cursor = s.cursor := rfl
@[simp] theorem State.setMemAddr_cmdIdx (s : State) (v : Addr7) : (s.setMemAddr v).cmdIdx = s.cmdIdx := rfl
@[simp] theorem State.setMemAddr_sequencer (s : State) (v : Addr7) : (s.setMemAddr v).sequencer = s.sequencer := rfl
@[simp] theorem State.setMemAddr_stream (s : State) (v : Addr7) : (s.setMemAddr v).stream = s.stream := rfl
@[simp] theorem State.setMemAddr_responses (s : State) (v : Addr7) : (s.setMemAddr v).responses = s.responses := rfl
@[simp] theorem State.setMemAddr_answers (s : State) (v : Addr7) : (s.setMemAddr v).answers = s.answers := rfl
@[simp] theorem State.setMemAddr_trace (s : State) (v : Addr7) : (s.setMemAddr v).trace = s.trace := rfl
@[simp] theorem State.setMemAddr_trigUpdatesCache (s : State) (v : Addr7) : (s.setMemAddr v).trigUpdatesCache = s.trigUpdatesCache := rfl

/-! ### State.setCursor -/

@[simp] theorem State.setCursor_tsValid (s : State) (v : Half) : (s.setCursor v).tsValid = s.tsValid := rfl
@[simp] theorem State.setCursor_tsAddr (s : State) (v : Half) : (s.setCursor v).tsAddr = s.tsAddr := rfl
@[simp] theorem State.setCursor_tsRes (s : State) (v : Half) : (s.setCursor v).tsRes = s.tsRes := rfl
@[simp] theorem State.setCursor_memValid (s : State) (v : Half) : (s.setCursor v).memValid = s.memValid := rfl
@[simp] theorem State.setCursor_memAddr (s : State) (v : Half) : (s.setCursor v).memAddr = s.memAddr := rfl
@[simp] theorem State.setCursor_cursor (s : State) (v : Half) : (s.setCursor v).cursor = v := rfl
@[simp] theorem State.setCursor_cmdIdx (s : State) (v : Half) : (s.setCursor v).cmdIdx = s.cmdIdx := rfl
@[simp] theorem State.setCursor_sequencer (s : State) (v : Half) : (s.setCursor v).sequencer = s.sequencer := rfl
@[simp] theorem State.setCursor_stream (s : State) (v : Half) : (s.setCursor v).stream = s.stream := rfl
@[simp] theorem State.setCursor_responses (s : State) (v : Half) : (s.setCursor v).responses = s.responses := rfl
@[simp] theorem State.setCursor_answers (s : State) (v : Half) : (s.setCursor v).answers = s.answers := rfl
@[simp] theorem State.setCursor_trace (s : State) (v : Half) : (s.setCursor v).trace = s.trace := rfl
@[simp] theorem State.setCursor_trigUpdatesCache (s : State) (v : Half) : (s.setCursor v).trigUpdatesCache = s.trigUpdatesCache := rfl

/-! ### State.setSequencer -/

@[simp] theorem State.setSequencer_tsValid (s : State) (q : Sequencer) : (s.setSequencer q).tsValid = s.tsValid := rfl
@[simp] theorem State.setSequencer_tsAddr (s : State) (q : Sequencer) : (s.setSequencer q).tsAddr = s.tsAddr := rfl
@[simp] theorem State.setSequencer_tsRes (s : State) (q : Sequencer) : (s.setSequencer q).tsRes = s.tsRes := rfl
@[simp] theorem State.setSequencer_memValid (s : State) (q : Sequencer) : (s.setSequencer q).memValid = s.memValid := rfl
@[simp] theorem State.setSequencer_memAddr (s : State) (q : Sequencer) : (s.setSequencer q).memAddr = s.memAddr := rfl
@[simp] theorem State.setSequencer_cursor (s : State) (q : Sequencer) : (s.setSequencer q).cursor = s.cursor := rfl
@[simp] theorem State.setSequencer_cmdIdx (s : State) (q : Sequencer) : (s.setSequencer q).cmdIdx = s.cmdIdx := rfl
@[simp] theorem State.setSequencer_sequencer (s : State) (q : Sequencer) : (s.setSequencer q).sequencer = q := rfl
@[simp] theorem State.setSequencer_stream (s : State) (q : Sequencer) : (s.setSequencer q).stream = s.stream := rfl
@[simp] theorem State.setSequencer_responses (s : State) (q : Sequencer) : (s.setSequencer q).responses = s.responses := rfl
@[simp] theorem State.setSequencer_answers (s : State) (q : Sequencer) : (s.setSequencer q).answers = s.answers := rfl
@[simp] theorem State.setSequencer_trace (s : State) (q : Sequencer) : (s.setSequencer q).trace = s.trace := rfl
@[simp] theorem State.setSequencer_trigUpdatesCache (s : State) (q : Sequencer) : (s.setSequencer q).trigUpdatesCache = s.trigUpdatesCache := rfl

/-! ### State.setAnswers -/

@[simp] theorem State.setAnswers_tsValid (s : State) (v : List Answer) : (s.setAnswers v).tsValid = s.tsValid := rfl
@[simp] theorem State.setAnswers_tsAddr (s : State) (v : List Answer) : (s.setAnswers v).tsAddr = s.tsAddr := rfl
@[simp] theorem State.setAnswers_tsRes (s : State) (v : List Answer) : (s.setAnswers v).tsRes = s.tsRes := rfl
@[simp] theorem State.setAnswers_memValid (s : State) (v : List Answer) : (s.setAnswers v).memValid = s.memValid := rfl
@[simp] theorem State.setAnswers_memAddr (s : State) (v : List Answer) : (s.setAnswers v).memAddr = s.memAddr := rfl
@[simp] theorem State.setAnswers_cursor (s : State) (v : List Answer) : (s.setAnswers v).cursor = s.cursor := rfl
@[simp] theorem State.setAnswers_cmdIdx (s : State) (v : List Answer) : (s.setAnswers v).cmdIdx = s.cmdIdx := rfl
@[simp] theorem State.setAnswers_sequencer (s : State) (v : List Answer) : (s.setAnswers v).sequencer = s.sequencer := rfl
@[simp] theorem State.setAnswers_stream (s : State) (v : List Answer) : (s.setAnswers v).stream = s.stream := rfl
@[simp] theorem State.setAnswers_responses (s : State) (v : List Answer) : (s.setAnswers v).responses = s.responses := rfl
@[simp] theorem State.setAnswers_answers (s : State) (v : List Answer) : (s.setAnswers v).answers = v := rfl
@[simp] theorem State.setAnswers_trace (s : State) (v : List Answer) : (s.setAnswers v).trace = s.trace := rfl
@[simp] theorem State.setAnswers_trigUpdatesCache (s : State) (v : List Answer) : (s.setAnswers v).trigUpdatesCache = s.trigUpdatesCache := rfl

/-! ### State.setStream -/

@[simp] theorem State.setStream_tsValid (s : State) (v : List Word) : (s.setStream v).tsValid = s.tsValid := rfl
@[simp] theorem State.setStream_tsAddr (s : State) (v : List Word) : (s.setStream v).tsAddr = s.tsAddr := rfl
@[simp] theorem State.setStream_tsRes (s : State) (v : List Word) : (s.setStream v).tsRes = s.tsRes := rfl
@[simp] theorem State.setStream_memValid (s : State) (v : List Word) : (s.setStream v).memValid = s.memValid := rfl
@[simp] theorem State.setStream_memAddr (s : State) (v : List Word) : (s.setStream v).memAddr = s.memAddr := rfl
@[simp] theorem State.setStream_cursor (s : State) (v : List Word) : (s.setStream v).cursor = s.cursor := rfl
@[simp] theorem State.setStream_cmdIdx (s : State) (v : List Word) : (s.setStream v).cmdIdx = s.cmdIdx := rfl
@[simp] theorem State.setStream_sequencer (s : State) (v : List Word) : (s.setStream v).sequencer = s.sequencer := rfl
@[simp] theorem State.setStream_stream (s : State) (v : List Word) : (s.setStream v).stream = v := rfl
@[simp] theorem State.setStream_responses (s : State) (v : List Word) : (s.setStream v).responses = s.responses := rfl
@[simp] theorem State.setStream_answers (s : State) (v : List Word) : (s.setStream v).answers = s.answers := rfl
@[simp] theorem State.setStream_trace (s : State) (v : List Word) : (s.setStream v).trace = s.trace := rfl
@[simp] theorem State.setStream_trigUpdatesCache (s : State) (v : List Word) : (s.setStream v).trigUpdatesCache = s.trigUpdatesCache := rfl

/-! ### State.setStrap -/

@[simp] theorem State.setStrap_tsValid (s : State) (v : Bool) : (s.setStrap v).tsValid = s.tsValid := rfl
@[simp] theorem State.setStrap_tsAddr (s : State) (v : Bool) : (s.setStrap v).tsAddr = s.tsAddr := rfl
@[simp] theorem State.setStrap_tsRes (s : State) (v : Bool) : (s.setStrap v).tsRes = s.tsRes := rfl
@[simp] theorem State.setStrap_memValid (s : State) (v : Bool) : (s.setStrap v).memValid = s.memValid := rfl
@[simp] theorem State.setStrap_memAddr (s : State) (v : Bool) : (s.setStrap v).memAddr = s.memAddr := rfl
@[simp] theorem State.setStrap_cursor (s : State) (v : Bool) : (s.setStrap v).cursor = s.cursor := rfl
@[simp] theorem State.setStrap_cmdIdx (s : State) (v : Bool) : (s.setStrap v).cmdIdx = s.cmdIdx := rfl
@[simp] theorem State.setStrap_sequencer (s : State) (v : Bool) : (s.setStrap v).sequencer = s.sequencer := rfl
@[simp] theorem State.setStrap_stream (s : State) (v : Bool) : (s.setStrap v).stream = s.stream := rfl
@[simp] theorem State.setStrap_responses (s : State) (v : Bool) : (s.setStrap v).responses = s.responses := rfl
@[simp] theorem State.setStrap_answers (s : State) (v : Bool) : (s.setStrap v).answers = s.answers := rfl
@[simp] theorem State.setStrap_trace (s : State) (v : Bool) : (s.setStrap v).trace = s.trace := rfl
@[simp] theorem State.setStrap_trigUpdatesCache (s : State) (v : Bool) : (s.setStrap v).trigUpdatesCache = v := rfl

/-! ### State.record -/

@[simp] theorem State.record_tsValid (s : State) (e : Event) : (s.record e).tsValid = s.tsValid := rfl
@[simp] theorem State.record_tsAddr (s : State) (e : Event) : (s.record e).tsAddr = s.tsAddr := rfl
@[simp] theorem State.record_tsRes (s : State) (e : Event) : (s.record e).tsRes = s.tsRes := rfl
@[simp] theorem State.record_memValid (s : State) (e : Event) : (s.record e).memValid = s.memValid := rfl
@[simp] theorem State.record_memAddr (s : State) (e : Event) : (s.record e).memAddr = s.memAddr := rfl
@[simp] theorem State.record_cursor (s : State) (e : Event) : (s.record e).cursor = s.cursor := rfl
@[simp] theorem State.record_cmdIdx (s : State) (e : Event) : (s.record e).cmdIdx = s.cmdIdx := rfl
@[simp] theorem State.record_sequencer (s : State) (e : Event) : (s.record e).sequencer = s.sequencer := rfl
@[simp] theorem State.record_stream (s : State) (e : Event) : (s.record e).stream = s.stream := rfl
@[simp] theorem State.record_responses (s : State) (e : Event) : (s.record e).responses = s.responses := rfl
@[simp] theorem State.record_answers (s : State) (e : Event) : (s.record e).answers = s.answers := rfl
@[simp] theorem State.record_trace (s : State) (e : Event) : (s.record e).trace = s.trace ++ [e] := rfl
@[simp] theorem State.record_trigUpdatesCache (s : State) (e : Event) : (s.record e).trigUpdatesCache = s.trigUpdatesCache := rfl

/-! ### State.deliver -/

@[simp] theorem State.deliver_tsValid (s : State) (r : Word) : (s.deliver r).tsValid = s.tsValid := rfl
@[simp] theorem State.deliver_tsAddr (s : State) (r : Word) : (s.deliver r).tsAddr = s.tsAddr := rfl
@[simp] theorem State.deliver_tsRes (s : State) (r : Word) : (s.deliver r).tsRes = s.tsRes := rfl
@[simp] theorem State.deliver_memValid (s : State) (r : Word) : (s.deliver r).memValid = s.memValid := rfl
@[simp] theorem State.deliver_memAddr (s : State) (r : Word) : (s.deliver r).memAddr = s.memAddr := rfl
@[simp] theorem State.deliver_cursor (s : State) (r : Word) : (s.deliver r).cursor = s.cursor := rfl
@[simp] theorem State.deliver_cmdIdx (s : State) (r : Word) : (s.deliver r).cmdIdx = s.cmdIdx + 1 := rfl
@[simp] theorem State.deliver_sequencer (s : State) (r : Word) : (s.deliver r).sequencer = .idle := rfl
@[simp] theorem State.deliver_stream (s : State) (r : Word) : (s.deliver r).stream = s.stream := rfl
@[simp] theorem State.deliver_responses (s : State) (r : Word) : (s.deliver r).responses = s.responses ++ [r] := rfl
@[simp] theorem State.deliver_answers (s : State) (r : Word) : (s.deliver r).answers = s.answers := rfl
@[simp] theorem State.deliver_trace (s : State) (r : Word) : (s.deliver r).trace = s.trace := rfl
@[simp] theorem State.deliver_trigUpdatesCache (s : State) (r : Word) : (s.deliver r).trigUpdatesCache = s.trigUpdatesCache := rfl

/-! ### State.answered -/

@[simp] theorem State.answered_tsValid (s : State) (cur : Word) (q : Request) (a : Answer) (rest : List Answer) : (s.answered cur q a rest).tsValid = s.tsValid := rfl
@[simp] theorem State.answered_tsAddr (s : State) (cur : Word) (q : Request) (a : Answer) (rest : List Answer) : (s.answered cur q a rest).tsAddr = s.tsAddr := rfl
@[simp] theorem State.answered_tsRes (s : State) (cur : Word) (q : Request) (a : Answer) (rest : List Answer) : (s.answered cur q a rest).tsRes = s.tsRes := rfl
@[simp] theorem State.answered_memValid (s : State) (cur : Word) (q : Request) (a : Answer) (rest : List Answer) : (s.answered cur q a rest).memValid = s.memValid := rfl
@[simp] theorem State.answered_memAddr (s : State) (cur : Word) (q : Request) (a : Answer) (rest : List Answer) : (s.answered cur q a rest).memAddr = s.memAddr := rfl
@[simp] theorem State.answered_cursor (s : State) (cur : Word) (q : Request) (a : Answer) (rest : List Answer) : (s.answered cur q a rest).cursor = s.cursor := rfl
@[simp] theorem State.answered_cmdIdx (s : State) (cur : Word) (q : Request) (a : Answer) (rest : List Answer) : (s.answered cur q a rest).cmdIdx = s.cmdIdx := rfl
@[simp] theorem State.answered_sequencer (s : State) (cur : Word) (q : Request) (a : Answer) (rest : List Answer) : (s.answered cur q a rest).sequencer = .exec cur := rfl
@[simp] theorem State.answered_stream (s : State) (cur : Word) (q : Request) (a : Answer) (rest : List Answer) : (s.answered cur q a rest).stream = s.stream := rfl
@[simp] theorem State.answered_responses (s : State) (cur : Word) (q : Request) (a : Answer) (rest : List Answer) : (s.answered cur q a rest).responses = s.responses := rfl
@[simp] theorem State.answered_answers (s : State) (cur : Word) (q : Request) (a : Answer) (rest : List Answer) : (s.answered cur q a rest).answers = rest := rfl
@[simp] theorem State.answered_trace (s : State) (cur : Word) (q : Request) (a : Answer) (rest : List Answer) : (s.answered cur q a rest).trace = s.trace ++ [.transfer q (q.reply a)] := rfl
@[simp] theorem State.answered_trigUpdatesCache (s : State) (cur : Word) (q : Request) (a : Answer) (rest : List Answer) : (s.answered cur q a rest).trigUpdatesCache = s.trigUpdatesCache := rfl

end Sys2Proof.Machine
end

