-- ==== Sys2Proof/Laws/Ops.lean ====
section
/-! SUPPORT. What each shared operation can do, said once, so that a proof about a command cites it and does not unfold
it: the endings of a command, the checks, the framer and the step by phase. -/

namespace Sys2Proof.Machine

/-! ### The endings of a command, as the word they deliver -/

@[simp] theorem State.done_eq (s : State) : s.done = s.deliver 0x00000000#32 := rfl

theorem responseWord_data (d : Half) : responseWord d 0 true .ok = (d ++ 0x0008#16 : Word) := by
  apply BitVec.eq_of_getLsbD_eq
  intro i hi
  simp only [responseWord, Status.code, BitVec.getLsbD_append]
  interval_cases i <;> simp

@[simp] theorem State.doneWith_eq (s : State) (d : Half) : s.doneWith d = s.deliver (d ++ 0x0008#16) := by
  simp only [State.doneWith, responseWord_data]

theorem State.raise_eq (s : State) (e : Status) : s.raise e = s.deliver (responseWord 0 0 false e) := rfl

@[simp] theorem State.raise_transportError (s : State) : s.raise .transportError = s.deliver 0x00000001#32 := rfl
@[simp] theorem State.raise_invalidArgument (s : State) : s.raise .invalidArgument = s.deliver 0x00000002#32 := rfl
@[simp] theorem State.raise_deviceNotReady (s : State) : s.raise .deviceNotReady = s.deliver 0x00000003#32 := rfl
@[simp] theorem State.raise_uninitialised (s : State) : s.raise .uninitialised = s.deliver 0x00000006#32 := rfl
@[simp] theorem State.raise_illegalCommand (s : State) : s.raise .illegalCommand = s.deliver 0x00000007#32 := rfl

/-- Delivery sets the sequencer whatever it was. -/
@[simp] theorem State.deliver_setSequencer (s : State) (q : Sequencer) (r : Word) :
    (s.setSequencer q).deliver r = s.deliver r := rfl

@[simp] theorem State.beginWait_eq (s : State) (cur : Word) (t : Duration) :
    s.beginWait cur t = s.setSequencer (.wait cur t) := rfl

@[simp] theorem State.endWait_eq (s : State) (t : Duration) :
    s.endWait t = (s.record (.wait t)).deliver 0x00000000#32 := rfl

/-! ### The checks -/

theorem requireTs_valid (k : State → State) {s : State} (h : s.tsValid = true) : requireTs k s = k s := by
  simp [requireTs, h]

theorem requireTs_invalid (k : State → State) {s : State} (h : s.tsValid = false) :
    requireTs k s = s.deliver 0x00000006#32 := by
  simp [requireTs, h]

theorem requireMem_valid (k : State → State) {s : State} (h : s.memValid = true) : requireMem k s = k s := by
  simp [requireMem, h]

theorem requireMem_invalid (k : State → State) {s : State} (h : s.memValid = false) :
    requireMem k s = s.deliver 0x00000006#32 := by
  simp [requireMem, h]

/-- A command under `require TS_VALID` either ends UNINITIALISED or runs with the unit valid. -/
theorem requireTs_cases (k : State → State) (s : State) :
    (s.tsValid = false ∧ requireTs k s = s.deliver 0x00000006#32) ∨ (s.tsValid = true ∧ requireTs k s = k s) := by
  cases h : s.tsValid
  · exact .inl ⟨rfl, requireTs_invalid k h⟩
  · exact .inr ⟨rfl, requireTs_valid k h⟩

/-- A command under `require MEM_VALID` either ends UNINITIALISED or runs with the unit valid. -/
theorem requireMem_cases (k : State → State) (s : State) :
    (s.memValid = false ∧ requireMem k s = s.deliver 0x00000006#32) ∨ (s.memValid = true ∧ requireMem k s = k s) := by
  cases h : s.memValid
  · exact .inl ⟨rfl, requireMem_invalid k h⟩
  · exact .inr ⟨rfl, requireMem_valid k h⟩

/-- What holds of both endings of `require TS_VALID` holds of the command. -/
theorem requireTs_ind {P : State → Prop} {k : State → State} {s : State}
    (h0 : s.tsValid = false → P (s.deliver 0x00000006#32)) (h1 : s.tsValid = true → P (k s)) : P (requireTs k s) := by
  rcases requireTs_cases k s with ⟨h, e⟩ | ⟨h, e⟩ <;> rw [e]
  · exact h0 h
  · exact h1 h

/-- What holds of both endings of `require MEM_VALID` holds of the command. -/
theorem requireMem_ind {P : State → Prop} {k : State → State} {s : State}
    (h0 : s.memValid = false → P (s.deliver 0x00000006#32)) (h1 : s.memValid = true → P (k s)) :
    P (requireMem k s) := by
  rcases requireMem_cases k s with ⟨h, e⟩ | ⟨h, e⟩ <;> rw [e]
  · exact h0 h
  · exact h1 h

/-! ### The framer -/

theorem awaitAnswer_none (cur : Word) (p : Position) (k : Answer → State → State) {s : State}
    (h : s.answers = []) : awaitAnswer cur p k s = s.setSequencer (.bus cur p) := by
  simp [awaitAnswer, h]

theorem awaitAnswer_some (cur : Word) (p : Position) (k : Answer → State → State) {s : State} {a : Answer}
    {rest : List Answer} (h : s.answers = a :: rest) :
    awaitAnswer cur p k s = k a (s.answered cur (p.request s) a rest) := by
  simp [awaitAnswer, h]

/-- A request either stays outstanding, the transport having no answer, or is answered by the next answer. -/
theorem awaitAnswer_cases (cur : Word) (p : Position) (k : Answer → State → State) (s : State) :
    (s.answers = [] ∧ awaitAnswer cur p k s = s.setSequencer (.bus cur p)) ∨
    ∃ a rest, s.answers = a :: rest ∧ awaitAnswer cur p k s = k a (s.answered cur (p.request s) a rest) := by
  cases h : s.answers with
  | nil => exact .inl ⟨rfl, awaitAnswer_none cur p k h⟩
  | cons a rest => exact .inr ⟨a, rest, rfl, awaitAnswer_some cur p k h⟩

/-- What holds of a request left outstanding, and of the rest of the command after any answer, holds of the
command: the one way a proof about all answers goes through a request. -/
theorem awaitAnswer_ind {P : State → Prop} {cur : Word} {p : Position} {k : Answer → State → State} {s : State}
    (h0 : s.answers = [] → P (s.setSequencer (.bus cur p)))
    (h1 : ∀ a rest, s.answers = a :: rest → P (k a (s.answered cur (p.request s) a rest))) :
    P (awaitAnswer cur p k s) := by
  rcases awaitAnswer_cases cur p k s with ⟨h, e⟩ | ⟨a, rest, h, e⟩ <;> rw [e]
  · exact h0 h
  · exact h1 a rest h

@[simp] theorem afterCfgRd_ok (k : Option Byte → State → State) (b b' : Byte) (s : State) :
    afterCfgRd k (.ok b b') s = k (some b) s := rfl
@[simp] theorem afterCfgRd_fail (k : Option Byte → State → State) (s : State) :
    afterCfgRd k .fail s = k none s := rfl
@[simp] theorem afterCfgPtr_ok (cur : Word) (rd : Position) (k : Option Byte → State → State) (b b' : Byte)
    (s : State) : afterCfgPtr cur rd k (.ok b b') s = awaitAnswer cur rd (afterCfgRd k) s := rfl
@[simp] theorem afterCfgPtr_fail (cur : Word) (rd : Position) (k : Option Byte → State → State) (s : State) :
    afterCfgPtr cur rd k .fail s = k none s := rfl
@[simp] theorem finishRead_ok (b b' : Byte) (s : State) :
    finishRead (.ok b b') s = s.deliver (merge b b' ++ 0x0008#16) := by
  simp [finishRead]
@[simp] theorem finishRead_fail (s : State) : finishRead .fail s = s.deliver 0x00000001#32 := rfl
@[simp] theorem afterPtr_ok (cur : Word) (rd : Position) (b b' : Byte) (s : State) :
    afterPtr cur rd (.ok b b') s = awaitAnswer cur rd finishRead s := rfl
@[simp] theorem afterPtr_fail (cur : Word) (rd : Position) (s : State) :
    afterPtr cur rd .fail s = s.deliver 0x00000001#32 := rfl

/-! ### The step, by phase -/

theorem step_idle {s : State} (h : s.sequencer = .idle) : step s = .next s.acceptNext := by
  simp [step, h]

theorem step_exec_ok {s : State} {w : Word} {i : Instr} (h : s.sequencer = .exec w) (hd : decode w = .ok i) :
    step s = exec i s := by
  simp [step, h, hd]

theorem step_exec_illegal {s : State} {w : Word} {e : DecodeError} (h : s.sequencer = .exec w)
    (hd : decode w = .error e) : step s = .next s.refuseIllegal := by
  simp [step, h, hd]

theorem step_bus {s : State} {w : Word} {p : Position} (h : s.sequencer = .bus w p) :
    step s = .next (s.resume w p) := by
  simp [step, h]

theorem step_wait {s : State} {w : Word} {t : Duration} (h : s.sequencer = .wait w t) :
    step s = .next (s.endWait t) := by
  simp [step, h]

end Sys2Proof.Machine
end

