-- ==== Sys2Proof/Laws/PerInstr.lean ====
section
/-! SUPPORT. Statements for all instructions, made per instruction: every instruction is well formed, and its word is
legal. -/

namespace Sys2Proof.Laws.Encoding

/-- An instruction is well formed, and its word is legal (spec 30_encoding.md R58, R60). -/
def Statement (i : Instr) : Prop := i.wellFormed = true ∧ legal (encode i) = true

/-- A command word is legal when the spec's check passes on its operand, flag and opcode. -/
theorem legal_commandWord (x : Half) (nd : Bool) (op : BitVec 4) :
    legal (commandWord x nd op) = RawCommand.wellFormed { operand := x, rsv := 0, nodst := nd, op := op } := by
  simp only [legal, rawOf, operandOf_commandWord, rsvOf_commandWord, nodstOf_commandWord, opOf_commandWord]

/-- A value extended to 16 bits has no bit at or above its own width. -/
theorem extract_high_setWidth {n : Nat} (x : BitVec n) (m : Nat) :
    (x.setWidth 16).extractLsb' n m = 0 := by
  apply BitVec.eq_of_getLsbD_eq
  intro i hi
  simp [BitVec.getLsbD_extractLsb', BitVec.getLsbD_setWidth, BitVec.getLsbD_of_ge]

theorem tsInit (addr : Addr7) : Statement (.tsInit addr) :=
  ⟨by simp [Instr.wellFormed]; omega, by
    simp [encode, legal_commandWord, RawCommand.wellFormed, extract_high_setWidth]⟩

theorem tsWrcfg (cfg : Byte) : Statement (.tsWrcfg cfg) :=
  ⟨by simp [Instr.wellFormed]; omega, by
    simp [encode, legal_commandWord, RawCommand.wellFormed, extract_high_setWidth]⟩

theorem tsTrig : Statement .tsTrig := ⟨rfl, by decide⟩

theorem tsRdraw (nodst : Bool) : Statement (.tsRdraw nodst) := ⟨rfl, by cases nodst <;> decide⟩

theorem tsConv (raw : Half) : Statement (.tsConv raw) :=
  ⟨by simp [Instr.wellFormed]; omega, by simp [encode, legal_commandWord, RawCommand.wellFormed]⟩

theorem memInit (addr : Addr7) : Statement (.memInit addr) :=
  ⟨by simp [Instr.wellFormed]; omega, by
    simp [encode, legal_commandWord, RawCommand.wellFormed, extract_high_setWidth]⟩

theorem memWrseq (data : Half) : Statement (.memWrseq data) :=
  ⟨by simp [Instr.wellFormed]; omega, by simp [encode, legal_commandWord, RawCommand.wellFormed]⟩

theorem memRdat (address : Half) (nodst : Bool) : Statement (.memRdat address nodst) :=
  ⟨by simp [Instr.wellFormed]; omega, by simp [encode, legal_commandWord, RawCommand.wellFormed]⟩

theorem memCursor : Statement .memCursor := ⟨rfl, by decide⟩

end Sys2Proof.Laws.Encoding
end

