-- ==== Sys2Proof/Laws/RefDevices.lean ====
section
/-! SUPPORT. What one request can do to the reference devices, whatever its draw: no address changes, the items keep their
canonical form, a receive changes neither device, and the memory becomes busy only by a 4-byte write that it answers OK. -/

namespace Sys2Proof.Machine

theorem spoilMemory_items (x : RefMemory) (d : Draw) (q : Request) (h : itemsWf x.items = true) :
    itemsWf (spoilMemory x d q).items = true := by
  unfold spoilMemory
  split
  · exact itemsWf_writeItem _ h _ _
  · exact h
  · exact h

@[simp] theorem spoilMemory_busy (x : RefMemory) (d : Draw) (q : Request) : (spoilMemory x d q).busy = x.busy := by
  unfold spoilMemory; split <;> rfl

@[simp] theorem spoilMemory_addr (x : RefMemory) (d : Draw) (q : Request) : (spoilMemory x d q).addr = x.addr := by
  unfold spoilMemory; split <;> rfl

@[simp] theorem spoilSensor_addr (x : RefSensor) (d : Draw) (q : Request) : (spoilSensor x d q).addr = x.addr := by
  unfold spoilSensor; split
  · rfl
  · split <;> rfl
  · rfl

theorem serveMemory_items (x : RefMemory) (d : Draw) (q : Request) (h : itemsWf x.items = true) :
    itemsWf (serveMemory x d q).2.items = true := by
  unfold serveMemory
  split
  · exact spoilMemory_items x d q h
  · split
    · exact itemsWf_writeItem _ h _ _
    · exact h
    · exact h
    · exact h

@[simp] theorem serveMemory_addr (x : RefMemory) (d : Draw) (q : Request) : (serveMemory x d q).2.addr = x.addr := by
  unfold serveMemory
  split
  · exact spoilMemory_addr x d q
  · split <;> rfl

@[simp] theorem serveSensor_addr (x : RefSensor) (d : Draw) (q : Request) : (serveSensor x d q).2.addr = x.addr := by
  unfold serveSensor
  split
  · exact spoilSensor_addr x d q
  · split
    · rfl
    · dsimp only; split <;> rfl
    · rfl
    · rfl
    · rfl

/-- The memory becomes busy only by a 4-byte write that it answers OK. -/
theorem serveMemory_busy (x : RefMemory) (d : Draw) (q : Request) (h0 : x.busy = false)
    (h : (serveMemory x d q).2.busy = true) :
    (∃ a b c e f n t, q = .tx a [b, c, e, f] n t) ∧ ∃ b0 b1, (serveMemory x d q).1 = .ok b0 b1 := by
  unfold serveMemory at h ⊢
  split at h
  · rw [spoilMemory_busy, h0] at h; cases h
  · next hf =>
    rw [if_neg hf]
    split at h
    · exact ⟨⟨_, _, _, _, _, _, _, rfl⟩, _, _, rfl⟩
    all_goals exact absurd (h0.symm.trans h) (by simp)

/-- A request keeps both devices' addresses and the items' canonical form. -/
theorem serve_keeps (x : RefSensor) (m : RefMemory) (d : Draw) (q : Request) (h : itemsWf m.items = true) :
    (serve x m d q).2.1.addr = x.addr ∧ (serve x m d q).2.2.addr = m.addr ∧
      itemsWf (serve x m d q).2.2.items = true := by
  unfold serve
  split
  · exact ⟨serveSensor_addr x d q, rfl, h⟩
  · split
    · exact ⟨rfl, serveMemory_addr m d q, serveMemory_items m d q h⟩
    · exact ⟨rfl, rfl, h⟩

/-- A receive changes neither device, answered OK or FAIL. -/
theorem serve_receive (x : RefSensor) (m : RefMemory) (d : Draw) (a8 : Byte) (n : Nat) (t : Duration) :
    (serve x m d (.rx a8 n t)).2 = (x, m) := by
  unfold serve serveSensor serveMemory spoilSensor spoilMemory
  repeat' split
  all_goals first | rfl | simp_all

end Sys2Proof.Machine
end

