-- ==== Sys2Proof/Tests/Slice0.lean ====
section
/-! SUPPORT. Tests of single steps on small states, with the expected results of spec 95_test_vectors.md (a `V` number is a
row of its section 2.5, a `W` number one of its Part 1), and for every obligation with hypotheses a witness that meets
them. -/

namespace Sys2Proof.Tests

open Sys2Proof Sys2Proof.Machine

/-! ### Small states -/

/-- The start state of 95_test_vectors.md section 2.5, with the transport's answers. -/
def board (answers : List Answer) : State :=
  { State.reset with
    tsValid := true, tsAddr := 0x48, tsRes := 3
    memValid := true, memAddr := 0x50, cursor := 0x0001, answers := answers }

/-- An OK answer to a transmit. -/
def sent : Answer := .ok 0 0

/-- The board with a command accepted. -/
def running (w : Word) (answers : List Answer) : State :=
  { board answers with stream := [w], sequencer := .exec w }

/-- The state a step answers, for looking at its fields. -/
def after (r : Host.Outcome State Fault Refusal) : Option State :=
  match r with
  | .next t => some t
  | .fault _ => none
  | .refused _ => none

/-! ### Well-formedness: one ill-formed raw command for each check of R60 -/

theorem test_wf_refuses_reserved_bits :
    RawCommand.wellFormed { operand := 0x48, rsv := 1, nodst := false, op := 0x0 } = false := by decide
theorem test_wf_refuses_reserved_opcodes :
    RawCommand.wellFormed { operand := 0, rsv := 0, nodst := false, op := 0x5 } = false ∧
    RawCommand.wellFormed { operand := 0, rsv := 0, nodst := false, op := 0x7 } = false ∧
    RawCommand.wellFormed { operand := 0, rsv := 0, nodst := false, op := 0xC } = false ∧
    RawCommand.wellFormed { operand := 0, rsv := 0, nodst := false, op := 0xF } = false := by decide
theorem test_wf_refuses_nodst_not_taken :
    [0x0, 0x1, 0x2, 0x4, 0x8, 0x9, 0xB].all (fun op =>
      !RawCommand.wellFormed { operand := 0, rsv := 0, nodst := true, op := op }) = true := by decide
theorem test_wf_refuses_address_bit_7 :
    RawCommand.wellFormed { operand := 0x0080, rsv := 0, nodst := false, op := 0x0 } = false ∧
    RawCommand.wellFormed { operand := 0x0080, rsv := 0, nodst := false, op := 0x8 } = false := by decide
theorem test_wf_refuses_configuration_bit_8 :
    RawCommand.wellFormed { operand := 0x0100, rsv := 0, nodst := false, op := 0x1 } = false := by decide
theorem test_wf_refuses_untaken_operand :
    [0x2, 0x3, 0xB].all (fun op =>
      !RawCommand.wellFormed { operand := 1, rsv := 0, nodst := false, op := op }) = true := by decide
theorem test_wf_accepts_taken_nodst :
    RawCommand.wellFormed { operand := 0, rsv := 0, nodst := true, op := 0x3 } = true ∧
    RawCommand.wellFormed { operand := 0xFFFF, rsv := 0, nodst := true, op := 0xA } = true := by decide
theorem test_instr_wf : Instr.wellFormed (.memRdat 0xFFFF true) = true := by decide

/-! ### Decoding: words written out bit by bit from R56 (`OPERAND ++ RSV ++ NODST ++ OP`) -/

theorem test_decode_ts_init :
    decode 0b00000000010010000000000000000000 = .ok (.tsInit 0x48) := by decide
theorem test_decode_ts_wrcfg :
    decode 0b00000000001000010000000000000001 = .ok (.tsWrcfg 0x21) := by decide
theorem test_decode_ts_trig :
    decode 0b00000000000000000000000000000010 = .ok .tsTrig := by decide
theorem test_decode_ts_rdraw :
    decode 0b00000000000000000000000000000011 = .ok (.tsRdraw false) ∧
    decode 0b00000000000000000000000000010011 = .ok (.tsRdraw true) := by decide
theorem test_decode_ts_conv :
    decode 0b00001100100100000000000000000100 = .ok (.tsConv 0x0C90) := by decide
theorem test_decode_mem_init :
    decode 0b00000000010100000000000000001000 = .ok (.memInit 0x50) := by decide
theorem test_decode_mem_wrseq :
    decode 0b10111110111011110000000000001001 = .ok (.memWrseq 0xBEEF) := by decide
theorem test_decode_mem_rdat :
    decode 0b01111111111111110000000000001010 = .ok (.memRdat 0x7FFF false) ∧
    decode 0b11111111111111110000000000011010 = .ok (.memRdat 0xFFFF true) := by decide
theorem test_decode_mem_cursor :
    decode 0b00000000000000000000000000001011 = .ok .memCursor := by decide

/-- The illegal words of section 2.1. -/
theorem test_decode_illegal_words :
    ([0x00800000, 0x00480010, 0x01000001, 0x00010002, 0x00000012, 0x00010003, 0x00000014, 0x00000005, 0x00000006,
      0x00000007, 0x00800008, 0x00000019, 0x0000001B, 0x0000000C, 0x0000000F, 0x00000020, 0x0000802A,
      0xFFFFFFFF] : List Word).all (fun w => !legal w) = true := by decide
theorem test_decode_names_the_cause :
    decode 0x00000020 = .error .reservedBits ∧ decode 0x00000005 = .error .reservedOpcode ∧
    decode 0x00480010 = .error .nodstNotTaken ∧ decode 0x00800000 = .error .operandNotTaken := by decide
theorem test_decode_table_word : decodeTableWord 32 0x00480000 = some (.tsInit 0x48) := by decide
theorem test_encode_words :
    encode (.tsInit 0x7F) = 0x007F0000 ∧ encode (.tsRdraw true) = 0x00000013 ∧
    encode (.memRdat 0x8000 false) = 0x8000000A ∧ encode (.memWrseq 0xBEEF) = 0xBEEF0009 := by decide

/-! ### The assembler (R71, R72; the lines of programs P1 and P2) -/

theorem test_asm_comment :
    assembleLine "ts.shutdown 1        ; = ts.wrcfg 0x21".toList = .word 0x00210001 := by decide
theorem test_asm_nodst : assembleLine "mem.rdat 0x0001, nodst".toList = .word 0x0001001A := by decide
theorem test_asm_out_of_range :
    assembleLine "ts.init 0x80".toList = .error ∧ assembleLine "ts.continuous 4".toList = .error := by decide

/-! ### The data path (sections 2.2 to 2.4) -/

theorem test_address_bytes :
    writeAddress 0x48 = 0x90 ∧ readAddress 0x48 = 0x91 ∧ writeAddress 0x7F = 0xFE ∧ readAddress 0x00 = 0x01 := by
  decide
theorem test_decoder_rows :
    decodeSample 0x8000 0 = 0xFF00 ∧ decodeSample 0xE700 1 = 0xFF9C ∧ decodeSample 0xFF80 2 = 0xFFFC ∧
    decodeSample 0xFFF8 3 = 0xFFFF ∧ decodeSample 0x7FFF 3 = 0x07FF := by decide
theorem test_celsius_example : celsius 0x00C9 3 = 12.5625 := by
  have h : celsius 0x00C9 3 = ((0x00C9#16).toInt : Rat) * (1 / 16) := rfl
  have i : (0x00C9#16).toInt = 201 := by decide
  rw [h, i]; norm_num
theorem test_next_cursor :
    nextCursor 0x0000 = 0x0001 ∧ nextCursor 0x7FFE = 0x7FFF ∧ nextCursor 0x7FFF = 0x0000 := by decide

/-! ### The commands: at most two each -/

/-- V1. -/
theorem test_ts_init_reads_the_code :
    (after (exec (.tsInit 0x48) { board [sent, .ok 0x61 0] with tsValid := false })).map
      (fun t => (t.tsValid, t.tsAddr, t.tsRes, t.responses)) = some (true, 0x48, 3, [0x00000000]) := by decide
/-- V5. -/
theorem test_ts_init_falls_back :
    (after (exec (.tsInit 0x7F) (board [.fail]))).map (fun t => (t.tsAddr, t.tsRes, t.responses, t.trace)) =
      some (0x7F, 0, [0x00000000], [.transfer (.tx 0xFE [0x01] 1 .tBus) .fail]) := by decide
/-- V7. -/
theorem test_ts_wrcfg_ok :
    (after (exec (.tsWrcfg 0x41) (board [sent]))).map (fun t => (t.tsRes, t.responses, t.trace)) =
      some (2, [0x00000000], [.transfer (.tx 0x90 [0x01, 0x41] 2 .tBus) (.ok [])]) := by decide
/-- V8. -/
theorem test_ts_wrcfg_fail :
    (after (exec (.tsWrcfg 0x21) (board [.fail]))).map (fun t => (t.tsRes, t.responses)) =
      some (3, [0x00000001]) := by decide
/-- V13. -/
theorem test_ts_trig_waits :
    (after (exec .tsTrig { board [sent, .ok 0x21 0, sent] with trigUpdatesCache := false })).map
      (fun t => (t.tsRes, t.sequencer, t.responses, t.trace.drop 2)) =
      some (3, .wait 0x00000002 (.tConv 3), [], [.transfer (.tx 0x90 [0x01, 0xA1] 2 .tBus) (.ok [])]) := by decide
/-- V15. -/
theorem test_ts_trig_not_ready :
    (after (exec .tsTrig (board [sent, .ok 0x60 0]))).map (fun t => (t.responses, t.trace.length)) =
      some ([0x00000003], 2) := by decide
/-- V19. -/
theorem test_ts_rdraw_ok :
    (after (exec (.tsRdraw false) (board [sent, .ok 0x0C 0x90]))).map (fun t => (t.responses, t.trace)) =
      some ([0x0C900008], [.transfer (.tx 0x90 [0x00] 1 .tBus) (.ok []),
        .transfer (.rx 0x91 2 .tBus) (.ok [0x0C, 0x90])]) := by decide
/-- V22. -/
theorem test_ts_rdraw_uninitialised_first :
    (after (exec (.tsRdraw true) { board [] with tsValid := false })).map (fun t => t.responses) =
      some [0x00000006] := by decide
/-- W1. -/
theorem test_ts_conv_example :
    (after (exec (.tsConv 0x0C90) (board []))).map (fun t => t.responses) = some [0x00C90038] := by decide
/-- V26. -/
theorem test_ts_conv_negative :
    (after (exec (.tsConv 0xFFF0) { board [] with tsRes := 2 })).map (fun t => t.responses) =
      some [0xFFFF0028] := by decide
/-- V29. -/
theorem test_mem_init_resets_the_cursor :
    (after (exec (.memInit 0x51) { board [] with cursor := 0x1234 })).map
      (fun t => (t.memAddr, t.cursor, t.responses)) = some (0x51, 0, [0x00000000]) := by decide
/-- V31. -/
theorem test_mem_wrseq_wraps :
    (after (exec (.memWrseq 0x00FF) { board [sent] with cursor := 0x7FFF })).map
      (fun t => (t.cursor, t.sequencer, t.trace)) =
      some (0, .wait 0x00FF0009 .tWr,
        [.transfer (.tx 0xA0 [0x7F, 0xFF, 0x00, 0xFF] 4 .tBus) (.ok [])]) := by decide
/-- V32. -/
theorem test_mem_wrseq_fail :
    (after (exec (.memWrseq 0xBEEF) (board [.fail]))).map (fun t => (t.cursor, t.responses)) =
      some (1, [0x00000001]) := by decide
/-- V35. -/
theorem test_mem_rdat_ok :
    (after (exec (.memRdat 0x7FFF false) (board [sent, .ok 0x13 0x57]))).map
      (fun t => (t.cursor, t.responses, t.trace.take 1)) =
      some (1, [0x13570008], [.transfer (.tx 0xA0 [0x7F, 0xFF] 2 .tBus) (.ok [])]) := by decide
/-- V36. -/
theorem test_mem_rdat_range :
    (after (exec (.memRdat 0x8000 false) (board [sent, sent]))).map (fun t => (t.responses, t.trace)) =
      some ([0x00000002], []) := by decide
/-- V41. -/
theorem test_mem_cursor :
    (after (exec .memCursor { board [] with cursor := 0x7FFF })).map (fun t => t.responses) =
      some [0x7FFF0008] := by decide
/-- V43. -/
theorem test_step_illegal :
    (after (step (State.reset.withFetchWord 32 0x00000005))).map (fun t => (t.responses, t.cmdIdx)) =
      some ([0x00000007], 1) := by decide
theorem test_step_runs_the_placed_word :
    (after (step (State.reset.withFetchWord 32 0x00500008))).map (fun t => (t.memValid, t.memAddr, t.responses)) =
      some (true, 0x50, [0x00000000]) := by decide

/-! ### The reference devices (R47, R48) -/

/-- A draw that injects nothing. -/
def plainDraw : Draw :=
  { failed := false, sample := none, any0 := 0, any1 := 0, unlistedOk := true
    remains := { ptr := 0x11, cfg := 0x22, temp := 0x3333, mptr := 0x4444, item := 0x5555 } }

/-- A draw that injects a failure. -/
def failedDraw : Draw := { plainDraw with failed := true }

/-- The board's chip between the devices of 95_test_vectors.md Part 3. -/
def desk (s : State) (draws : List Draw) : Platform :=
  { chip := s
    sensor := { addr := 0x48, ptr := 0, cfg := 0x61, temp := 0 }
    memory := { addr := 0x50, items := [(1, 0xBEEF)], mptr := 0, busy := false }
    draws := draws }

theorem test_items_canonical :
    writeItem [(1, 0xBEEF), (4, 7)] 4 0 = [(1, 0xBEEF)] ∧ writeItem [(4, 7)] 2 9 = [(2, 9), (4, 7)] := by decide
theorem test_sensor_samples :
    (serveSensor (desk (board []) []).sensor { plainDraw with sample := some 0x1940 }
      (.tx 0x90 [0x01, 0xE1] 2 .tBus)).2 = { addr := 0x48, ptr := 1, cfg := 0xE1, temp := 0x1940 } := by decide
theorem test_memory_answers_an_item :
    (serve (desk (board []) []).sensor { (desk (board []) []).memory with mptr := 1 } plainDraw
      (.rx 0xA1 2 .tBus)).1 = .ok 0xBE 0xEF := by decide
/-- R43: a failed frame spoils what it would have changed, and a failed read nothing. -/
theorem test_failed_write_spoils_its_item :
    ((serve (desk (board []) []).sensor (desk (board []) []).memory failedDraw
      (.tx 0xA0 [0x00, 0x02, 0xBE, 0xEF] 4 .tBus)).2.2).items = [(1, 0xBEEF), (2, 0x5555)] ∧
    (serve (desk (board []) []).sensor (desk (board []) []).memory failedDraw (.rx 0x91 1 .tBus)).2 =
      ((desk (board []) []).sensor, (desk (board []) []).memory) := by decide
theorem test_failed_pointer_keeps_the_configuration :
    serve (desk (board []) []).sensor (desk (board []) []).memory failedDraw (.tx 0x90 [0x01] 1 .tBus) =
      (.fail, { addr := 0x48, ptr := 0x11, cfg := 0x61, temp := 0 }, (desk (board []) []).memory) := by decide
theorem test_no_device_fails :
    (serve (desk (board []) []).sensor (desk (board []) []).memory plainDraw (.tx 0x22 [0] 1 .tBus)).1 = .fail := by
  decide

/-! ### Witnesses: states and operands that meet the hypotheses of the obligations, clause by clause -/

theorem witness_legal_words :
    legal 0x00480000 = true ∧ decode 0x00480000 = .ok (.tsInit 0x48) ∧ legal 0x00800000 = false ∧
    (⟨"TS_INIT", 0x00000000, 0xFF80FFFF⟩ : TableRow) ∈ opcodeTable ∧
    TableRow.accepts ⟨"TS_INIT", 0x00000000, 0xFF80FFFF⟩ 0x007F0000 = true := by decide
theorem witness_decoded_rows :
    decode 0x00000013 = .ok (.tsRdraw true) ∧ decode 0xFFFF001A = .ok (.memRdat 0xFFFF true) := by decide
theorem witness_assembler :
    AsmLine.inRange (.tsInit 0x80) = false ∧ AsmLine.inRange (.tsInit 0x7F) = true ∧
    AsmLine.inRange (.tsShutdown 3) = true ∧ AsmLine.inRange (.tsShutdown 4) = false := by decide
theorem witness_pseudo : 3 < 4 ∧ AsmLine.word (.tsShutdown 4) = none := by decide
theorem witness_range_low_bits :
    (0xFFFF : Half).toNat / 2 ^ shiftAmount 3 = (0xFFF0 : Half).toNat / 2 ^ shiftAmount 3 := by decide
theorem witness_sign_clear :
    asr16 0x7FFF (shiftAmount 3) &&& signMask 3 = 0 ∧ asr16 0x7FFF (shiftAmount 0) &&& signMask 0 = 0 := by decide
theorem witness_sign_set :
    asr16 0x8000 (shiftAmount 3) &&& signMask 3 ≠ 0 ∧ asr16 0x8000 (shiftAmount 0) &&& signMask 0 ≠ 0 := by decide
theorem witness_cursor_domain :
    (0x7FFF : Half).toNat ≤ 0x7FFF ∧ (0x0000 : Half).toNat ≤ 0x7FFF ∧
    State.memValid { board [sent] with cursor := 0x7FFF } = true ∧
    State.cursor { board [sent] with cursor := 0x7FFF } = 0x7FFF ∧
    State.answers { board [sent] with cursor := 0x7FFF } = .ok 0 0 :: [] := by decide

/-- The clauses of the two constructors and of the writes, by their answers. -/
theorem witness_ts_init :
    (board [.fail]).answers = .fail :: [] ∧ (board [sent, .fail]).answers = .ok 0 0 :: .fail :: [] ∧
    (board [sent, .ok 0x61 0]).answers = .ok 0 0 :: .ok 0x61 0 :: [] := by decide
theorem witness_ts_wrcfg :
    State.reset.tsValid = false ∧ (board [.fail]).tsValid = true ∧ (board [.fail]).answers = .fail :: [] ∧
    (board [sent]).tsValid = true ∧ (board [sent]).answers = .ok 0 0 :: [] := by decide
theorem witness_ts_trig_errors :
    State.reset.tsValid = false ∧ (board [.fail]).tsValid = true ∧ (board [.fail]).answers = .fail :: [] ∧
    (board [sent, .fail]).tsValid = true ∧ (board [sent, .fail]).answers = .ok 0 0 :: .fail :: [] ∧
    (board [sent, .ok 0x60 0]).tsValid = true ∧ (board [sent, .ok 0x60 0]).answers = .ok 0 0 :: .ok 0x60 0 :: [] ∧
    (0x60 : Byte).getLsbD 0 = false := by decide
theorem witness_ts_trig_write_back :
    (board [sent, .ok 0x61 0, .fail]).tsValid = true ∧
    (board [sent, .ok 0x61 0, .fail]).answers = .ok 0 0 :: .ok 0x61 0 :: .fail :: [] ∧
    (board [sent, .ok 0x61 0, sent]).tsValid = true ∧
    (board [sent, .ok 0x61 0, sent]).answers = .ok 0 0 :: .ok 0x61 0 :: .ok 0 0 :: [] ∧
    (0x61 : Byte).getLsbD 0 = true := by decide
theorem witness_ts_rdraw :
    State.reset.tsValid = false ∧ (board []).tsValid = true ∧ (board [.fail]).tsValid = true ∧
    (board [.fail]).answers = .fail :: [] ∧ (board [sent, .fail]).tsValid = true ∧
    (board [sent, .fail]).answers = .ok 0 0 :: .fail :: [] ∧ (board [sent, .ok 0x0C 0x90]).tsValid = true ∧
    (board [sent, .ok 0x0C 0x90]).answers = .ok 0 0 :: .ok 0x0C 0x90 :: [] := by decide
theorem witness_ts_conv : State.reset.tsValid = false ∧ (board []).tsValid = true := by decide
theorem witness_mem_wrseq :
    State.reset.memValid = false ∧ (board [.fail]).memValid = true ∧ (board [.fail]).answers = .fail :: [] ∧
    (board [sent]).memValid = true ∧ (board [sent]).answers = .ok 0 0 :: [] := by decide
theorem witness_mem_rdat_arguments :
    State.reset.memValid = false ∧ (board []).memValid = true ∧ 0x7FFF < (0x8000 : Half).toNat ∧
    (0x7FFF : Half).toNat ≤ 0x7FFF := by decide
theorem witness_mem_rdat_frames :
    (board [.fail]).memValid = true ∧ (board [.fail]).answers = .fail :: [] ∧
    (board [sent, .fail]).memValid = true ∧ (board [sent, .fail]).answers = .ok 0 0 :: .fail :: [] ∧
    (board [sent, .ok 0xBE 0xEF]).memValid = true ∧
    (board [sent, .ok 0xBE 0xEF]).answers = .ok 0 0 :: .ok 0xBE 0xEF :: [] ∧
    (0x7FFF : Half).toNat ≤ 0x7FFF := by decide
theorem witness_mem_cursor : State.reset.memValid = false ∧ (board []).memValid = true := by decide

theorem witness_uninitialised_sensor :
    isSensorCommand .tsTrig = true ∧ (∀ a, Instr.tsTrig ≠ .tsInit a) ∧ State.reset.tsValid = false := by
  refine ⟨rfl, ?_, rfl⟩
  intro a h; cases h
theorem witness_uninitialised_memory :
    isSensorCommand .memCursor = false ∧ (∀ a, Instr.memCursor ≠ .memInit a) ∧ State.reset.memValid = false := by
  refine ⟨rfl, ?_, rfl⟩
  intro a h; cases h

theorem witness_illegal_word :
    (running 0x00000005 []).sequencer = .exec 0x00000005 ∧ legal 0x00000005 = false := by decide
theorem witness_step_runs :
    (running 0x00480000 []).sequencer = .exec 0x00480000 ∧ decode 0x00480000 = .ok (.tsInit 0x48) := by decide
theorem witness_idle_accepts :
    State.sequencer { board [] with stream := [0x00000002] } = .idle ∧
    (State.stream { board [] with stream := [0x00000002] })[0]? = some 0x00000002 ∧
    State.reset.sequencer = .idle ∧ State.reset.stream[State.reset.cmdIdx]? = none := by decide
theorem witness_wait :
    State.sequencer { board [] with sequencer := .wait 0x00000002 (.tConv 3) } = .wait 0x00000002 (.tConv 3) := by
  decide
theorem witness_silent :
    State.sequencer { board [] with sequencer := .bus 0x00000002 .tsTrigPtr } = .bus 0x00000002 .tsTrigPtr ∧
    State.answers { board [] with sequencer := .bus 0x00000002 .tsTrigPtr } = [] := by decide
theorem witness_unanswered :
    (board []).answers = [] ∧ (board []).tsValid = true ∧ (board []).memValid = true ∧
    (0x7FFF : Half).toNat ≤ 0x7FFF := by decide
/-- A command left in BUS after its first answer. -/
theorem witness_late_answers :
    ∃ t, exec .tsTrig ((board []).setAnswers [sent]) = .next t ∧ t.phase = .bus := ⟨_, rfl, rfl⟩

/-! Invariants and whole-machine statements -/

theorem witness_invariant :
    State.reset.Inv ∧ ∃ t, step State.reset = .next t := by
  refine ⟨?_, _, rfl⟩
  constructor <;> simp [State.reset, State.cur, SequencerLegal]
/-- A busy state that meets the invariant: TS_TRIG waiting for its first answer. -/
def waiting : State := { board [] with stream := [0x00000002], sequencer := .bus 0x00000002 .tsTrigPtr }
theorem witness_invariant_busy : waiting.Inv := by
  constructor
  · intro _; decide
  · rfl
  · intro w h; cases h; rfl
  · exact ⟨rfl, by decide⟩
  · intro r h; cases h
  · intro e h; cases h
theorem witness_cursor_range :
    ((board [sent]).memValid = true → (board [sent]).cursor.toNat ≤ 0x7FFF) ∧
    ∃ t, step { board [sent] with cursor := 0x7FFF, sequencer := .exec 0x00FF0009 } = .next t ∧
      t.memValid = true := by
  refine ⟨fun _ => by decide, _, rfl, rfl⟩
theorem witness_error_response :
    ∃ t, step (running 0x00000002 [.fail]) = .next t ∧
      t.responses = (running 0x00000002 [.fail]).responses ++ [0x00000001] ∧ respStatus 0x00000001 ≠ 0 :=
  ⟨_, rfl, rfl, by decide⟩
theorem witness_error_bus :
    (∀ a, Instr.tsTrig ≠ .tsInit a) ∧ (∃ t, exec .tsTrig (board []) = .next t ∧ t.phase = .bus) ∧
    waiting.phase = .bus ∧ ∃ t, step waiting = .next t ∧ t.phase = .bus := by
  refine ⟨?_, ⟨_, rfl, rfl⟩, rfl, _, rfl, rfl⟩
  intro a h; cases h
theorem witness_statuses :
    SequencerLegal waiting ∧ waiting.cur = some (encode .tsTrig) ∧ (∃ t, step waiting = .next t) ∧
    SequencerLegal (running 0x00000002 [.fail]) ∧ (running 0x00000002 [.fail]).cur = some (encode .tsTrig) ∧
    ∃ t, step (running 0x00000002 [.fail]) = .next t ∧
      t.responses = (running 0x00000002 [.fail]).responses ++ [0x00000001] :=
  ⟨⟨rfl, by decide⟩, by decide, ⟨_, rfl⟩, trivial, by decide, _, rfl, rfl⟩
/-- TS_TRIG's write-back outstanding, with its answer come and another code in the byte. -/
def writingBack : State :=
  { board [sent] with stream := [0x00000002], sequencer := .bus 0x00000002 (.tsTrigWr 0xA1) }
/-- A write of every register, each from a state with a legal sequencer: the constructors from reset and from the board,
the other three writers, one of them resumed from BUS. -/
theorem witness_writers :
    SequencerLegal (running 0x007F0000 [.fail]) ∧
    (after (step (running 0x007F0000 [.fail]))).map (fun t => (t.tsAddr, t.tsRes)) = some (0x7F, 0) ∧
    SequencerLegal (running 0x00510008 []) ∧
    (after (step (running 0x00510008 []))).map (fun t => (t.memAddr, t.cursor)) = some (0x51, 0) ∧
    SequencerLegal (State.reset.withFetchWord 32 0x00510008) ∧
    (after (step (State.reset.withFetchWord 32 0x00510008))).map (fun t => t.memValid) = some true ∧
    SequencerLegal { State.reset.withFetchWord 32 0x007F0000 with answers := [.fail] } ∧
    (after (step { State.reset.withFetchWord 32 0x007F0000 with answers := [.fail] })).map (fun t => t.tsValid) =
      some true :=
  ⟨trivial, by decide, trivial, by decide, trivial, by decide, trivial, by decide⟩
theorem witness_writers_on_success :
    SequencerLegal (running 0x00210001 [sent]) ∧
    (after (step (running 0x00210001 [sent]))).map (fun t => t.tsRes) = some 1 ∧
    SequencerLegal writingBack ∧ writingBack.cur = some (encode .tsTrig) ∧ writingBack.trigUpdatesCache = true ∧
    (after (step writingBack)).map (fun t => t.tsRes) = some 1 ∧
    SequencerLegal (running 0xBEEF0009 [sent]) ∧
    (after (step (running 0xBEEF0009 [sent]))).map (fun t => t.cursor) = some 2 :=
  ⟨trivial, by decide, ⟨rfl, by decide, by decide, by decide⟩, by decide, rfl, by decide, trivial, by decide⟩
theorem witness_sensor_frame :
    isSensorCommand (.tsRdraw false) = true ∧ (∃ t, exec (.tsRdraw false) (board [sent, sent]) = .next t) ∧
    (∀ a, Instr.tsRdraw false ≠ .tsInit a) ∧ (∃ nd, Instr.tsRdraw false = .tsRdraw nd) ∧
    isSensorCommand (.tsConv 0) = true ∧ (∃ t, exec (.tsConv 0) (board []) = .next t) ∧
    ∃ raw, Instr.tsConv 0 = .tsConv raw := by
  refine ⟨rfl, ⟨_, rfl⟩, ?_, ⟨_, rfl⟩, rfl, ⟨_, rfl⟩, _, rfl⟩
  intro a h; cases h
theorem witness_memory_frame :
    isSensorCommand .memCursor = false ∧ (∃ t, exec .memCursor (board []) = .next t) ∧
    (∀ a, Instr.memCursor ≠ .memInit a) ∧ isSensorCommand (.memInit 0) = false ∧
    ∃ t, exec (.memInit 0) (board []) = .next t := by
  refine ⟨rfl, ⟨_, rfl⟩, ?_, rfl, _, rfl⟩
  intro a h; cases h
theorem witness_frames_in_order :
    (∃ t, exec .tsTrig (board [sent, .ok 0x61 0, sent]) = .next t ∧ t.phase = .wait) ∧
    ∃ t, exec (.tsRdraw false) (board [sent, sent]) = .next t ∧
      t.responses = (board [sent, sent]).responses ++ [0x00000008] ∧ respStatus 0x00000008 = 0 :=
  ⟨⟨_, rfl, rfl⟩, _, rfl, rfl, by decide⟩
theorem witness_units_apart :
    (∃ t, exec (.tsWrcfg 0x21) (board [sent]) = .next t) ∧ isSensorCommand (.tsWrcfg 0x21) = true ∧
    (∃ t, exec (.memWrseq 7) (board [sent]) = .next t) ∧ isSensorCommand (.memWrseq 7) = false :=
  ⟨⟨_, rfl⟩, rfl, ⟨_, rfl⟩, rfl⟩

/-! Reference devices -/

/-- The platform in the memory's write cycle, and with a request outstanding. -/
theorem witness_platform_safe :
    Platform.Safe { desk { board [] with sequencer := .wait 0xBEEF0009 .tWr } [] with
      memory := { addr := 0x50, items := [], mptr := 1, busy := true } } ∧
    Platform.Safe (desk waiting []) ∧ (desk waiting []).chip.phase = .bus := by
  refine ⟨⟨.inr ⟨rfl, 0xBEEF, by decide, rfl⟩, fun _ => ⟨_, rfl⟩, rfl⟩, ⟨⟨rfl, by decide⟩, ?_, rfl⟩, rfl⟩
  intro h; cases h
/-- An append accepted, on the platform. -/
def appendDesk : Platform := desk (running 0xBEEF0009 []) [plainDraw]
theorem witness_append :
    appendDesk.chip.sequencer = .exec (encode (.memWrseq 0xBEEF)) ∧ appendDesk.chip.memValid = true ∧
    appendDesk.chip.memAddr = appendDesk.memory.addr ∧ appendDesk.memory.addr ≠ appendDesk.sensor.addr ∧
    appendDesk.memory.busy = false ∧ itemsWf appendDesk.memory.items = true ∧
    appendDesk.draws = plainDraw :: [] ∧ plainDraw.failed = false := by decide
/-- A read of offset 1 accepted, on the platform. -/
def readDesk : Platform := desk (running 0x0001000A []) [plainDraw, plainDraw]
theorem witness_read :
    readDesk.chip.sequencer = .exec (encode (.memRdat 0x0001 false)) ∧ readDesk.chip.memValid = true ∧
    (0x0001 : Half).toNat ≤ 0x7FFF ∧ readDesk.chip.memAddr = readDesk.memory.addr ∧
    readDesk.memory.addr ≠ readDesk.sensor.addr ∧ readDesk.memory.busy = false ∧
    readDesk.draws = plainDraw :: plainDraw :: [] ∧ plainDraw.failed = false := by decide
/-- The same append and a configuration write, with a failure injected. -/
def failedAppendDesk : Platform := desk (running 0xBEEF0009 []) [failedDraw]
theorem witness_failed_append :
    failedAppendDesk.chip.sequencer = .exec (encode (.memWrseq 0xBEEF)) ∧ failedAppendDesk.chip.memValid = true ∧
    failedAppendDesk.chip.memAddr = failedAppendDesk.memory.addr ∧
    failedAppendDesk.memory.addr ≠ failedAppendDesk.sensor.addr ∧ failedAppendDesk.memory.busy = false ∧
    itemsWf failedAppendDesk.memory.items = true ∧ failedAppendDesk.draws = failedDraw :: [] ∧
    failedDraw.failed = true := by decide
def failedWriteDesk : Platform := desk (running 0x00210001 []) [failedDraw]
theorem witness_failed_configuration_write :
    failedWriteDesk.chip.sequencer = .exec (encode (.tsWrcfg 0x21)) ∧ failedWriteDesk.chip.tsValid = true ∧
    failedWriteDesk.chip.tsAddr = failedWriteDesk.sensor.addr ∧ failedWriteDesk.draws = failedDraw :: [] ∧
    failedDraw.failed = true := by decide
/-- The round trip of two values: the state of program P2 after its MEM_INIT. -/
def roundTrip : Platform :=
  desk { board [] with cursor := 0, stream := [0x11110009, 0x22220009, 0x0000000A, 0x0001000A] }
    (List.replicate 6 plainDraw)
theorem witness_round_trip :
    [(0x1111 : Half), 0x2222].length ≤ 0x8000 ∧ roundTrip.chip.sequencer = .idle ∧
    roundTrip.chip.memValid = true ∧ roundTrip.chip.cursor = 0 ∧ roundTrip.chip.memAddr = roundTrip.memory.addr ∧
    roundTrip.memory.addr ≠ roundTrip.sensor.addr ∧ roundTrip.memory.busy = false ∧
    itemsWf roundTrip.memory.items = true ∧
    roundTrip.chip.stream.drop roundTrip.chip.cmdIdx =
      [(0x1111 : Half), 0x2222].map (fun d => encode (.memWrseq d)) ++
        (List.range 2).map (fun i => encode (.memRdat (BitVec.ofNat 16 i) false)) ∧
    roundTrip.draws.length = 3 * 2 ∧ ∀ x ∈ roundTrip.draws, x.failed = false := by decide

end Sys2Proof.Tests
end

section
/-! PROOFS, family 00_scope: a step in EXEC is the decoded command (O28), no step rewrites the record of a run (O40),
and each unit's commands are blind to the other unit's registers (O47). -/

namespace Sys2Proof.Machine

/-! ### A command's next state as a function -/

/-- The state a command answers. The other outcomes are no command's, which `exec_eq_next` says. -/
def execState (i : Instr) (s : State) : State :=
  match exec i s with
  | .next t => t
  | .fault _ => s
  | .refused _ => s

theorem exec_eq_next (i : Instr) (s : State) : exec i s = .next (execState i s) := by
  cases i <;> rfl

theorem execState_eq_of_next {i : Instr} {s t : State} (h : exec i s = .next t) : execState i s = t :=
  Host.Outcome.next.inj ((exec_eq_next i s).symm.trans h)

/-! ### What a step may do to the stream, the strap and the record -/

/-- From s to t the host's stream and the strap are the same, answers were taken from the front, and responses and
events were added at the end (R126, R127). -/
structure State.ExtendedBy (s t : State) : Prop where
  stream : t.stream = s.stream
  strap : t.trigUpdatesCache = s.trigUpdatesCache
  answers : t.answers <:+ s.answers
  responses : s.responses <+: t.responses
  trace : s.trace <+: t.trace

namespace State.ExtendedBy

variable {s t u : State}

theorem refl (s : State) : s.ExtendedBy s :=
  ⟨rfl, rfl, List.suffix_rfl, List.prefix_rfl, List.prefix_rfl⟩

theorem trans (h : s.ExtendedBy t) (h' : t.ExtendedBy u) : s.ExtendedBy u where
  stream := h'.stream.trans h.stream
  strap := h'.strap.trans h.strap
  answers := h'.answers.trans h.answers
  responses := h.responses.trans h'.responses
  trace := h.trace.trans h'.trace

/-- A register write before t is reached adds nothing to the record and takes nothing from it. -/
theorem of_same_record {s' : State} (h : s'.ExtendedBy t) (hs : s'.stream = s.stream)
    (hx : s'.trigUpdatesCache = s.trigUpdatesCache) (ha : s'.answers = s.answers)
    (hr : s'.responses = s.responses) (ht : s'.trace = s.trace) : s.ExtendedBy t :=
  ⟨h.stream.trans hs, h.strap.trans hx, ha ▸ h.answers, hr ▸ h.responses, ht ▸ h.trace⟩

theorem deliver (s : State) (r : Word) : s.ExtendedBy (s.deliver r) :=
  ⟨rfl, rfl, List.suffix_rfl, List.prefix_append _ _, List.prefix_rfl⟩

theorem setSequencer (s : State) (q : Sequencer) : s.ExtendedBy (s.setSequencer q) :=
  of_same_record (refl _) rfl rfl rfl rfl rfl

theorem record (s : State) (e : Event) : s.ExtendedBy (s.record e) :=
  ⟨rfl, rfl, List.suffix_rfl, List.prefix_rfl, List.prefix_append _ _⟩

theorem answered {a : Answer} {rest : List Answer} (h : s.answers = a :: rest) (cur : Word) (q : Request) :
    s.ExtendedBy (s.answered cur q a rest) :=
  ⟨rfl, rfl, h ▸ List.suffix_cons a rest, List.prefix_rfl, List.prefix_append _ _⟩

end State.ExtendedBy

open State.ExtendedBy

theorem awaitAnswer_extends {k : Answer → State → State} (hk : ∀ a (s : State), s.ExtendedBy (k a s)) (cur : Word)
    (p : Position) (s : State) : s.ExtendedBy (awaitAnswer cur p k s) :=
  awaitAnswer_ind (fun _ => setSequencer s _) (fun a _ h => (answered h cur (p.request s)).trans (hk a _))

theorem requireTs_extends {k : State → State} (hk : ∀ s : State, s.ExtendedBy (k s)) (s : State) :
    s.ExtendedBy (requireTs k s) :=
  requireTs_ind (fun _ => deliver s _) (fun _ => hk s)

theorem requireMem_extends {k : State → State} (hk : ∀ s : State, s.ExtendedBy (k s)) (s : State) :
    s.ExtendedBy (requireMem k s) :=
  requireMem_ind (fun _ => deliver s _) (fun _ => hk s)

theorem ite_extends {k k' : State → State} (b : Prop) [Decidable b] (hk : ∀ s : State, s.ExtendedBy (k s))
    (hk' : ∀ s : State, s.ExtendedBy (k' s)) (s : State) : s.ExtendedBy (if b then k s else k' s) := by
  split
  · exact hk s
  · exact hk' s

theorem finishRead_extends (a : Answer) (s : State) : s.ExtendedBy (finishRead a s) := by
  cases a <;> exact deliver s _

theorem afterPtr_extends (cur : Word) (rd : Position) (a : Answer) (s : State) :
    s.ExtendedBy (afterPtr cur rd a s) := by
  cases a with
  | ok b b' => exact awaitAnswer_extends finishRead_extends cur rd s
  | fail => exact deliver s _

section ReadCfg
variable {k : Option Byte → State → State} (hk : ∀ cfg (s : State), s.ExtendedBy (k cfg s))
include hk

theorem afterCfgRd_extends (a : Answer) (s : State) : s.ExtendedBy (afterCfgRd k a s) := by
  cases a <;> exact hk _ s

theorem afterCfgPtr_extends (cur : Word) (rd : Position) (a : Answer) (s : State) :
    s.ExtendedBy (afterCfgPtr cur rd k a s) := by
  cases a with
  | ok b b' => exact awaitAnswer_extends (afterCfgRd_extends hk) cur rd s
  | fail => exact hk none s

end ReadCfg

theorem tsInitFinish_extends (cfg : Option Byte) (s : State) : s.ExtendedBy (tsInitFinish cfg s) := by
  cases cfg <;> exact of_same_record (deliver _ _) rfl rfl rfl rfl rfl

theorem tsWrcfgFinish_extends (v : Byte) (a : Answer) (s : State) : s.ExtendedBy (tsWrcfgFinish v a s) := by
  cases a <;> exact of_same_record (deliver _ _) rfl rfl rfl rfl rfl

theorem refreshCache_extends (w : Byte) (s : State) : s.ExtendedBy (refreshCache w s) := by
  unfold refreshCache
  split
  · exact of_same_record (refl _) rfl rfl rfl rfl rfl
  · exact refl s

theorem tsTrigFinish_extends (cur : Word) (w : Byte) (a : Answer) (s : State) :
    s.ExtendedBy (tsTrigFinish cur w a s) := by
  cases a with
  | ok b b' => exact (refreshCache_extends w s).trans (setSequencer _ _)
  | fail => exact deliver s _

theorem tsTrigCheck_extends (cur : Word) (cfg : Option Byte) (s : State) :
    s.ExtendedBy (tsTrigCheck cur cfg s) := by
  cases cfg with
  | none => exact deliver s _
  | some b =>
    exact ite_extends _ (awaitAnswer_extends (tsTrigFinish_extends cur _) cur (.tsTrigWr (withOneShot b)))
      (fun s => deliver s _) s

theorem memWrseqFinish_extends (cur : Word) (a : Answer) (s : State) :
    s.ExtendedBy (memWrseqFinish cur a s) := by
  cases a with
  | ok b b' => exact of_same_record (refl _) rfl rfl rfl rfl rfl
  | fail => exact deliver s _

theorem rest_extends (p : Position) (cur : Word) (a : Answer) (s : State) : s.ExtendedBy (p.rest cur a s) := by
  cases p with
  | tsInitPtr => exact afterCfgPtr_extends tsInitFinish_extends cur _ a s
  | tsInitRd => exact afterCfgRd_extends tsInitFinish_extends a s
  | tsWrcfgWr v => exact tsWrcfgFinish_extends v a s
  | tsTrigPtr => exact afterCfgPtr_extends (tsTrigCheck_extends cur) cur _ a s
  | tsTrigRd => exact afterCfgRd_extends (tsTrigCheck_extends cur) a s
  | tsTrigWr w => exact tsTrigFinish_extends cur w a s
  | tsRdrawPtr => exact afterPtr_extends cur _ a s
  | tsRdrawRd => exact finishRead_extends a s
  | memWrseqWr d => exact memWrseqFinish_extends cur a s
  | memRdatPtr x => exact afterPtr_extends cur _ a s
  | memRdatRd => exact finishRead_extends a s

theorem resume_extends (s : State) (cur : Word) (p : Position) : s.ExtendedBy (s.resume cur p) :=
  awaitAnswer_extends (rest_extends p cur) cur p s

theorem acceptNext_extends (s : State) : s.ExtendedBy s.acceptNext := by
  unfold State.acceptNext
  split
  · exact setSequencer s _
  · exact refl s

theorem endWait_extends (s : State) (t : Duration) : s.ExtendedBy (s.endWait t) :=
  (record s (.wait t)).trans (deliver _ _)

/-- Each command begins as its own first position goes on (`State.resume`), once its checks are passed. -/
theorem execState_extends (i : Instr) (s : State) : s.ExtendedBy (execState i s) := by
  cases i with
  | tsInit addr => exact of_same_record (resume_extends (s.setTsAddr addr) _ .tsInitPtr) rfl rfl rfl rfl rfl
  | tsWrcfg cfg => exact requireTs_extends (resume_extends · _ (.tsWrcfgWr cfg)) s
  | tsTrig => exact requireTs_extends (resume_extends · _ .tsTrigPtr) s
  | tsRdraw nodst =>
    exact requireTs_extends (ite_extends _ (fun s => deliver s _) (resume_extends · _ .tsRdrawPtr)) s
  | tsConv raw => exact requireTs_extends (deliver · _) s
  | memInit addr => exact of_same_record (deliver _ _) rfl rfl rfl rfl rfl
  | memWrseq data => exact requireMem_extends (resume_extends · _ (.memWrseqWr data)) s
  | memRdat address nodst =>
    exact requireMem_extends (ite_extends _ (fun s => deliver s _) (resume_extends · _ (.memRdatPtr address))) s
  | memCursor => exact requireMem_extends (fun s => deliver s _) s

theorem step_extends {s t : State} (h : step s = .next t) : s.ExtendedBy t := by
  cases hq : s.sequencer with
  | idle =>
    obtain rfl := Host.Outcome.next.inj ((step_idle hq).symm.trans h)
    exact acceptNext_extends s
  | exec w =>
    cases hd : decode w with
    | ok i =>
      obtain rfl := execState_eq_of_next ((step_exec_ok hq hd).symm.trans h)
      exact execState_extends i s
    | error e =>
      obtain rfl := Host.Outcome.next.inj ((step_exec_illegal hq hd).symm.trans h)
      exact deliver s _
  | bus w p =>
    obtain rfl := Host.Outcome.next.inj ((step_bus hq).symm.trans h)
    exact resume_extends s w p
  | wait w d =>
    obtain rfl := Host.Outcome.next.inj ((step_wait hq).symm.trans h)
    exact endWait_extends s d

/-! ### Operations that commute with a change of registers -/

/-- A change of the state that the sequencer's and the ports' own moves neither see nor undo. -/
structure OutsideSequencing (f : State → State) : Prop where
  answers : ∀ s, (f s).answers = s.answers
  setSequencer : ∀ q, Function.Commute f (fun s => s.setSequencer q)
  deliver : ∀ r, Function.Commute f (fun s => s.deliver r)
  answered : ∀ cur q a rest, Function.Commute f (fun s => s.answered cur q a rest)

theorem outsideSequencing_withMemUnit (v : Bool) (a : Addr7) (c : Half) :
    OutsideSequencing (fun s => s.withMemUnit v a c) :=
  ⟨fun _ => rfl, fun _ _ => rfl, fun _ _ => rfl, fun _ _ _ _ _ => rfl⟩

theorem outsideSequencing_withSensorUnit (v : Bool) (a : Addr7) (r : ResCode) :
    OutsideSequencing (fun s => s.withSensorUnit v a r) :=
  ⟨fun _ => rfl, fun _ _ => rfl, fun _ _ => rfl, fun _ _ _ _ _ => rfl⟩

section Commute
variable {f : State → State}

theorem afterCfgRd_commute {k : Option Byte → State → State} (hk : ∀ cfg, Function.Commute f (k cfg))
    (a : Answer) : Function.Commute f (afterCfgRd k a) := by
  cases a with
  | ok b b' => exact hk (some b)
  | fail => exact hk none

theorem ite_commute {k k' : State → State} (b : Prop) [Decidable b] (hk : Function.Commute f k)
    (hk' : Function.Commute f k') : Function.Commute f (fun s => if b then k s else k' s) := by
  intro s
  dsimp only
  split
  · exact hk s
  · exact hk' s

variable (hf : OutsideSequencing f)
include hf

theorem awaitAnswer_commute {k : Answer → State → State} {p : Position} (cur : Word)
    (hp : ∀ s, p.request (f s) = p.request s) (hk : ∀ a, Function.Commute f (k a)) :
    Function.Commute f (awaitAnswer cur p k) := by
  intro s
  cases h : s.answers with
  | nil =>
    rw [awaitAnswer_none cur p k h, awaitAnswer_none cur p k ((hf.answers s).trans h)]
    exact hf.setSequencer _ s
  | cons a rest =>
    rw [awaitAnswer_some cur p k h, awaitAnswer_some cur p k ((hf.answers s).trans h), hp s]
    exact (hk a _).trans (congrArg (k a) (hf.answered cur _ a rest s))

theorem requireTs_commute {k : State → State} (hv : ∀ s, (f s).tsValid = s.tsValid)
    (hk : Function.Commute f k) : Function.Commute f (requireTs k) := by
  intro s
  rcases requireTs_cases k s with ⟨h, e⟩ | ⟨h, e⟩
  · rw [e, requireTs_invalid k ((hv s).trans h)]
    exact hf.deliver _ s
  · rw [e, requireTs_valid k ((hv s).trans h)]
    exact hk s

theorem requireMem_commute {k : State → State} (hv : ∀ s, (f s).memValid = s.memValid)
    (hk : Function.Commute f k) : Function.Commute f (requireMem k) := by
  intro s
  rcases requireMem_cases k s with ⟨h, e⟩ | ⟨h, e⟩
  · rw [e, requireMem_invalid k ((hv s).trans h)]
    exact hf.deliver _ s
  · rw [e, requireMem_valid k ((hv s).trans h)]
    exact hk s

theorem finishRead_commute (a : Answer) : Function.Commute f (finishRead a) := by
  cases a with
  | ok b b' => exact hf.deliver _
  | fail => exact hf.deliver _

theorem afterPtr_commute {rd : Position} (cur : Word) (hrd : ∀ s, rd.request (f s) = rd.request s) (a : Answer) :
    Function.Commute f (afterPtr cur rd a) := by
  cases a with
  | ok b b' => exact awaitAnswer_commute hf cur hrd (finishRead_commute hf)
  | fail => exact hf.deliver _

theorem afterCfgPtr_commute {k : Option Byte → State → State} {rd : Position} (cur : Word)
    (hrd : ∀ s, rd.request (f s) = rd.request s) (hk : ∀ cfg, Function.Commute f (k cfg)) (a : Answer) :
    Function.Commute f (afterCfgPtr cur rd k a) := by
  cases a with
  | ok b b' => exact awaitAnswer_commute hf cur hrd (afterCfgRd_commute hk)
  | fail => exact hk none

end Commute

/-! ### The sensor's commands and the memory unit's registers -/

section MemUnit
variable (v : Bool) (a : Addr7) (c : Half)

theorem tsInitFinish_commute_withMemUnit (cfg : Option Byte) :
    Function.Commute (fun s => s.withMemUnit v a c) (tsInitFinish cfg) := by
  cases cfg <;> exact fun _ => rfl

theorem tsWrcfgFinish_commute_withMemUnit (b : Byte) (x : Answer) :
    Function.Commute (fun s => s.withMemUnit v a c) (tsWrcfgFinish b x) := by
  cases x <;> exact fun _ => rfl

/-- The one place where a sensor command reads the strap, which the memory unit's registers are apart from. -/
theorem refreshCache_commute_withMemUnit (w : Byte) :
    Function.Commute (fun s => s.withMemUnit v a c) (refreshCache w) := fun s =>
  apply_ite (fun t : State => t.withMemUnit v a c) (s.trigUpdatesCache = true) (s.setTsRes (resOf w)) s

theorem tsTrigFinish_commute_withMemUnit (cur : Word) (w : Byte) (x : Answer) :
    Function.Commute (fun s => s.withMemUnit v a c) (tsTrigFinish cur w x) := by
  cases x with
  | ok b b' =>
    intro s
    simp only [tsTrigFinish, ← (refreshCache_commute_withMemUnit v a c w).eq s]
    rfl
  | fail => exact fun _ => rfl

theorem tsTrigCheck_commute_withMemUnit (cur : Word) (cfg : Option Byte) :
    Function.Commute (fun s => s.withMemUnit v a c) (tsTrigCheck cur cfg) := by
  have hf := outsideSequencing_withMemUnit v a c
  cases cfg with
  | none => exact hf.deliver _
  | some b =>
    exact ite_commute _
      (awaitAnswer_commute hf cur (fun _ => rfl) (tsTrigFinish_commute_withMemUnit v a c cur _)) (hf.deliver _)

theorem sensorCommand_commute_withMemUnit {i : Instr} (hi : isSensorCommand i = true) :
    Function.Commute (fun s => s.withMemUnit v a c) (execState i) := by
  have hf := outsideSequencing_withMemUnit v a c
  cases i with
  | tsInit addr =>
    exact fun s => awaitAnswer_commute hf _ (fun _ => rfl)
      (afterCfgPtr_commute hf _ (fun _ => rfl) (tsInitFinish_commute_withMemUnit v a c)) (s.setTsAddr addr)
  | tsWrcfg cfg =>
    exact requireTs_commute hf (fun _ => rfl)
      (awaitAnswer_commute hf _ (fun _ => rfl) (tsWrcfgFinish_commute_withMemUnit v a c cfg))
  | tsTrig =>
    exact requireTs_commute hf (fun _ => rfl)
      (awaitAnswer_commute hf _ (fun _ => rfl)
        (afterCfgPtr_commute hf _ (fun _ => rfl) (tsTrigCheck_commute_withMemUnit v a c _)))
  | tsRdraw nodst =>
    exact requireTs_commute hf (fun _ => rfl) (ite_commute _ (hf.deliver _)
      (awaitAnswer_commute hf _ (fun _ => rfl) (afterPtr_commute hf _ (fun _ => rfl))))
  | tsConv raw => exact requireTs_commute hf (fun _ => rfl) (fun _ => rfl)
  | memInit addr => cases hi
  | memWrseq data => cases hi
  | memRdat address nodst => cases hi
  | memCursor => cases hi

end MemUnit

/-! ### The memory's commands and the sensor unit's registers -/

section SensorUnit
variable (v : Bool) (a : Addr7) (r : ResCode)

theorem memWrseqFinish_commute_withSensorUnit (cur : Word) (x : Answer) :
    Function.Commute (fun s => s.withSensorUnit v a r) (memWrseqFinish cur x) := by
  cases x <;> exact fun _ => rfl

theorem memoryCommand_commute_withSensorUnit {i : Instr} (hi : isSensorCommand i = false) :
    Function.Commute (fun s => s.withSensorUnit v a r) (execState i) := by
  have hf := outsideSequencing_withSensorUnit v a r
  cases i with
  | memInit addr => exact fun _ => rfl
  | memWrseq data =>
    exact requireMem_commute hf (fun _ => rfl)
      (awaitAnswer_commute hf _ (fun _ => rfl) (memWrseqFinish_commute_withSensorUnit v a r _))
  | memRdat address nodst =>
    exact requireMem_commute hf (fun _ => rfl) (ite_commute _ (hf.deliver _)
      (awaitAnswer_commute hf _ (fun _ => rfl) (afterPtr_commute hf _ (fun _ => rfl))))
  | memCursor => exact requireMem_commute hf (fun _ => rfl) (fun _ => rfl)
  | tsInit addr => cases hi
  | tsWrcfg cfg => cases hi
  | tsTrig => cases hi
  | tsRdraw nodst => cases hi
  | tsConv raw => cases hi

end SensorUnit

/-! ### The obligations -/

/-- Settles O28: the step by phase, at EXEC with a legal word. -/
theorem stepRunsTheDecodedCommand : Obligations.StepRunsTheDecodedCommand :=
  fun _ _ _ hs hd => step_exec_ok hs hd

/-- Settles O40: every continuation of a command extends the record, so every step does. -/
theorem stepsOnlyExtendTheRecord : Obligations.StepsOnlyExtendTheRecord := by
  intro s t h
  obtain ⟨hstream, hstrap, hanswers, hresponses, htrace⟩ := step_extends h
  exact ⟨hstream, hstrap, hanswers, hresponses, htrace⟩

/-- Settles O47: each unit's commands commute with every change of the other unit's registers. -/
theorem unitsDoNotReadEachOther : Obligations.UnitsDoNotReadEachOther := by
  intro i s t h
  obtain rfl := execState_eq_of_next h
  refine ⟨fun hi v a c => ?_, fun hi v a r => ?_⟩
  · rw [exec_eq_next, ← (sensorCommand_commute_withMemUnit v a c hi).eq s]
  · rw [exec_eq_next, ← (memoryCommand_commute_withSensorUnit v a r hi).eq s]

end Sys2Proof.Machine
end

section
/-! PROOFS, family 10_state: what one step can do, said once as a relation; from it the invariants (O36 to O39), the
writers of each register (O43) and the moves of the host and the delay unit (O29, O30), and that late answers make no
difference (O33). -/

namespace Sys2Proof

/-! ### A decoded word is its command's word -/

theorem withoutNodst_ok {w : Word} {k : Except DecodeError Instr} {i : Instr} (h : withoutNodst w k = .ok i) :
    nodstOf w = false ∧ k = .ok i := by
  unfold withoutNodst at h
  split at h
  · cases h
  · next hn => exact ⟨Bool.eq_false_of_not_eq_true hn, h⟩

theorem withOperandBits_ok {w : Word} {n : Nat} {k : Except DecodeError Instr} {i : Instr}
    (h : withOperandBits w n k = .ok i) : (operandOf w).toNat < 2 ^ n ∧ k = .ok i := by
  unfold withOperandBits at h
  split at h
  · next hx => exact ⟨hx, h⟩
  · cases h

theorem commandWord_eq_of_fields {w : Word} {x : Half} {nd : Bool} {op : BitVec 4} (hr : rsvOf w = 0)
    (hx : x = operandOf w) (hn : nodstOf w = nd) (ho : (opOf w).toNat = op.toNat) : commandWord x nd op = w := by
  rw [hx, ← hn, ← BitVec.eq_of_toNat_eq ho, commandWord_fields hr]

/-- An operand that an opcode does not take is 0. -/
theorem operand_of_noBits {x : Half} (h : x.toNat < 2 ^ 0) : 0 = x :=
  BitVec.eq_of_toNat_eq (Nat.lt_one_iff.mp h).symm

theorem encode_eq_of_decode {w : Word} {i : Instr} (h : decode w = .ok i) : encode i = w := by
  unfold decode at h
  split at h
  · cases h
  · next hr =>
    replace hr : rsvOf w = 0 := not_not.mp hr
    split at h <;> rename_i hop
    case h_1 | h_2 | h_6 =>
      obtain ⟨hn, h⟩ := withoutNodst_ok h
      obtain ⟨hx, ⟨⟩⟩ := withOperandBits_ok h
      exact commandWord_eq_of_fields hr (operand_of_lowBits hx) hn hop
    case h_3 | h_9 =>
      obtain ⟨hn, h⟩ := withoutNodst_ok h
      obtain ⟨hx, ⟨⟩⟩ := withOperandBits_ok h
      exact commandWord_eq_of_fields hr (operand_of_noBits hx) hn hop
    case h_4 =>
      obtain ⟨hx, ⟨⟩⟩ := withOperandBits_ok h
      exact commandWord_eq_of_fields hr (operand_of_noBits hx) rfl hop
    case h_5 | h_7 =>
      obtain ⟨hn, ⟨⟩⟩ := withoutNodst_ok h
      exact commandWord_eq_of_fields hr rfl hn hop
    case h_8 =>
      cases h
      exact commandWord_eq_of_fields hr rfl rfl hop
    case h_10 => cases h

end Sys2Proof

namespace Sys2Proof.Machine

/-! ### Response words -/

theorem respStatus_responseWord (d : Half) (r : ResCode) (dv : Bool) (e : Status) :
    respStatus (responseWord d r dv e) = e.code := by
  apply BitVec.eq_of_getLsbD_eq
  intro i hi
  simp only [respStatus, responseWord, BitVec.getLsbD_extractLsb', BitVec.getLsbD_append]
  interval_cases i <;> simp

theorem respDv_responseWord (d : Half) (r : ResCode) (dv : Bool) (e : Status) :
    respDv (responseWord d r dv e) = dv := by
  simp only [respDv, responseWord, BitVec.getLsbD_append]
  simp

theorem respRsv_responseWord (d : Half) (r : ResCode) (dv : Bool) (e : Status) :
    respRsv (responseWord d r dv e) = 0 := by
  apply BitVec.eq_of_getLsbD_eq
  intro i hi
  simp only [respRsv, responseWord, BitVec.getLsbD_extractLsb', BitVec.getLsbD_append]
  interval_cases i <;> simp

/-- A response that carries a status alone, or a value with status OK. -/
theorem responseLegal_status (e : Status) : ResponseLegal (responseWord 0 0 false e) := by
  cases e <;> exact ⟨by decide, by decide, by decide, by decide⟩

theorem responseLegal_value (d : Half) (r : ResCode) : ResponseLegal (responseWord d r true .ok) where
  rsv := respRsv_responseWord d r true .ok
  status := by rw [respStatus_responseWord]; decide
  noValue h := by simp [respDv_responseWord] at h
  error h := by simp [respStatus_responseWord, Status.code] at h

/-! ### What one step can do -/

/-- The order of a command's bus requests: after an OK answer at one position the command may go on at the next. -/
inductive Position.Follows : Position → Position → Prop
  | tsInitRd : Follows .tsInitPtr .tsInitRd
  | tsTrigRd : Follows .tsTrigPtr .tsTrigRd
  | tsTrigWr (b : Byte) : shutdownFlag b = true → Follows .tsTrigRd (.tsTrigWr (withOneShot b))
  | tsRdrawRd : Follows .tsRdrawPtr .tsRdrawRd
  | memRdatRd (a : Half) : Follows (.memRdatPtr a) .memRdatRd

/-- How the command `cur` ends, or begins its wait, when the request of its position has been answered in s and it
makes no other. -/
inductive Concludes (cur : Word) (s : State) : Position → State → Prop
  | responds {p : Position} {r : Word} (hr : ResponseLegal r) : Concludes cur s p (s.deliver r)
  | initialises {p : Position} {r : ResCode} (hp : p = .tsInitPtr ∨ p = .tsInitRd) :
      Concludes cur s p ((s.setTsRes r).setTsValid true).done
  | configures (v : Byte) : Concludes cur s (.tsWrcfgWr v) (s.setTsRes (resOf v)).done
  | triggers (w : Byte) :
      Concludes cur s (.tsTrigWr w) ((refreshCache w s).beginWait cur (.tConv (refreshCache w s).tsRes))
  | appends (d : Half) :
      Concludes cur s (.memWrseqWr d) ((s.setCursor (nextCursor s.cursor)).beginWait cur .tWr)

/-- What becomes of the command `cur` at a position from s, with the answers that s has. -/
inductive Resumes (cur : Word) : Position → State → State → Prop
  | outstanding {p : Position} {s : State} (ha : s.answers = []) : Resumes cur p s (s.setSequencer (.bus cur p))
  | goesOn {p p' : Position} {s t : State} {a : Answer} {rest : List Answer} (ha : s.answers = a :: rest)
      (hf : p.Follows p') (ht : Resumes cur p' (s.answered cur (p.request s) a rest) t) : Resumes cur p s t
  | concludes {p : Position} {s t : State} {a : Answer} {rest : List Answer} (ha : s.answers = a :: rest)
      (ht : Concludes cur (s.answered cur (p.request s) a rest) p t) : Resumes cur p s t

/-- What one step can do from s. -/
inductive Moves (s : State) : State → Prop
  | stays (hs : s.sequencer = .idle) : Moves s s
  | accepts {w : Word} (hs : s.sequencer = .idle) (hw : s.stream[s.cmdIdx]? = some w) :
      Moves s (s.setSequencer (.exec w))
  | responds {w r : Word} (hs : s.sequencer = .exec w) (hr : ResponseLegal r) : Moves s (s.deliver r)
  | constructsMemory (a : Addr7) (hs : s.sequencer = .exec (encode (.memInit a))) :
      Moves s (((s.setMemAddr a).setCursor 0).setMemValid true).done
  | constructsSensor {t : State} (a : Addr7) (hs : s.sequencer = .exec (encode (.tsInit a)))
      (ht : Resumes (encode (.tsInit a)) .tsInitPtr (s.setTsAddr a) t) : Moves s t
  | requests {t : State} {w : Word} {p : Position} (hs : s.sequencer = .exec w) (hp : PositionLegal p w s)
      (ht : Resumes w p s t) : Moves s t
  | resumes {t : State} {w : Word} {p : Position} (hs : s.sequencer = .bus w p) (ht : Resumes w p s t) : Moves s t
  | endsWait {w : Word} {d : Duration} (hs : s.sequencer = .wait w d) : Moves s ((s.record (.wait d)).done)

/-! ### The model makes only these moves -/

theorem finishRead_concludes (cur : Word) (p : Position) (a : Answer) (s : State) :
    Concludes cur s p (finishRead a s) := by
  cases a with
  | ok b0 b1 => exact .responds (responseLegal_value _ 0)
  | fail => exact .responds (responseLegal_status .transportError)

theorem tsInitFinish_concludes (cur : Word) {p : Position} (hp : p = .tsInitPtr ∨ p = .tsInitRd)
    (cfg : Option Byte) (s : State) : Concludes cur s p (tsInitFinish cfg s) := by
  cases cfg <;> exact .initialises hp

/-- TS_TRIG writes the byte back only with SD set in it (R95). -/
theorem tsTrigCheck_cases (cur : Word) (b : Byte) :
    (∃ p', Position.tsTrigRd.Follows p' ∧ ∀ s, tsTrigCheck cur (some b) s = s.resume cur p') ∨
    ∀ s, Concludes cur s .tsTrigRd (tsTrigCheck cur (some b) s) := by
  by_cases hb : shutdownFlag b = true
  · exact .inl ⟨_, .tsTrigWr b hb, fun _ => if_pos hb⟩
  · refine .inr fun s => ?_
    rw [show tsTrigCheck cur (some b) s = s.raise .deviceNotReady from if_neg hb]
    exact .responds (responseLegal_status .deviceNotReady)

/-- Once its request is answered, a command either goes on at the next position, or concludes. -/
theorem rest_cases (p : Position) (cur : Word) (a : Answer) :
    (∃ p', p.Follows p' ∧ ∀ s, p.rest cur a s = s.resume cur p') ∨ ∀ s, Concludes cur s p (p.rest cur a s) := by
  cases a with
  | fail =>
    refine .inr fun s => ?_
    cases p with
    | tsInitPtr => exact tsInitFinish_concludes cur (.inl rfl) none s
    | tsInitRd => exact tsInitFinish_concludes cur (.inr rfl) none s
    | _ => exact .responds (responseLegal_status .transportError)
  | ok b0 b1 =>
    cases p with
    | tsInitPtr => exact .inl ⟨_, .tsInitRd, fun _ => rfl⟩
    | tsInitRd => exact .inr (tsInitFinish_concludes cur (.inr rfl) (some b0))
    | tsWrcfgWr v => exact .inr fun _ => .configures v
    | tsTrigPtr => exact .inl ⟨_, .tsTrigRd, fun _ => rfl⟩
    | tsTrigRd => exact tsTrigCheck_cases cur b0
    | tsTrigWr w => exact .inr fun _ => .triggers w
    | tsRdrawPtr => exact .inl ⟨_, .tsRdrawRd, fun _ => rfl⟩
    | tsRdrawRd => exact .inr (finishRead_concludes cur _ (.ok b0 b1))
    | memWrseqWr d => exact .inr fun _ => .appends d
    | memRdatPtr x => exact .inl ⟨_, .memRdatRd x, fun _ => rfl⟩
    | memRdatRd => exact .inr (finishRead_concludes cur _ (.ok b0 b1))

theorem resume_none {s : State} (cur : Word) (p : Position) (h : s.answers = []) :
    s.resume cur p = s.setSequencer (.bus cur p) :=
  awaitAnswer_none cur p _ h

theorem resume_some {s : State} {a : Answer} {rest : List Answer} (cur : Word) (p : Position)
    (h : s.answers = a :: rest) : s.resume cur p = p.rest cur a (s.answered cur (p.request s) a rest) :=
  awaitAnswer_some cur p _ h

theorem resume_resumes (cur : Word) (p : Position) (s : State) : Resumes cur p s (s.resume cur p) := by
  induction ha : s.answers generalizing p s with
  | nil => exact resume_none cur p ha ▸ .outstanding ha
  | cons a rest ih =>
    rw [resume_some cur p ha]
    rcases rest_cases p cur a with ⟨p', hf, e⟩ | hc
    · exact .goesOn ha hf (e _ ▸ ih p' _ rfl)
    · exact .concludes ha (hc _)

theorem acceptNext_some {s : State} {w : Word} (h : s.stream[s.cmdIdx]? = some w) :
    s.acceptNext = s.setSequencer (.exec w) := by
  simp only [State.acceptNext, h]

theorem acceptNext_none {s : State} (h : s.stream[s.cmdIdx]? = none) : s.acceptNext = s := by
  simp only [State.acceptNext, h]

section Checks
variable {s : State} {w : Word} {k : State → State} (hs : s.sequencer = .exec w)
include hs

theorem raise_moves (e : Status) : Moves s (s.raise e) := .responds hs (responseLegal_status e)

theorem requireTs_moves (hk : s.tsValid = true → Moves s (k s)) : Moves s (requireTs k s) :=
  requireTs_ind (fun _ => raise_moves hs .uninitialised) hk

theorem requireMem_moves (hk : s.memValid = true → Moves s (k s)) : Moves s (requireMem k s) :=
  requireMem_ind (fun _ => raise_moves hs .uninitialised) hk

theorem resume_moves {p : Position} (hp : PositionLegal p w s) : Moves s (s.resume w p) :=
  .requests hs hp (resume_resumes w p s)

end Checks

theorem execState_moves {i : Instr} {s : State} (hs : s.sequencer = .exec (encode i)) : Moves s (execState i s) := by
  cases i with
  | tsInit addr => exact .constructsSensor addr hs (resume_resumes _ .tsInitPtr _)
  | tsWrcfg cfg => exact requireTs_moves hs fun hv => resume_moves (p := .tsWrcfgWr cfg) hs ⟨hv, rfl⟩
  | tsTrig => exact requireTs_moves hs fun hv => resume_moves (p := .tsTrigPtr) hs ⟨hv, rfl⟩
  | tsRdraw nodst =>
    simp only [execState, exec, execTsRdraw]
    refine requireTs_moves hs fun hv => ?_
    cases nodst with
    | true => exact raise_moves hs .invalidArgument
    | false => exact resume_moves (p := .tsRdrawPtr) hs ⟨hv, rfl⟩
  | tsConv raw =>
    simp only [execState, exec, execTsConv]
    exact requireTs_moves hs fun _ => .responds hs (responseLegal_value _ s.tsRes)
  | memInit addr => exact .constructsMemory addr hs
  | memWrseq data => exact requireMem_moves hs fun hv => resume_moves (p := .memWrseqWr data) hs ⟨hv, rfl⟩
  | memRdat address nodst =>
    simp only [execState, exec, execMemRdat]
    refine requireMem_moves hs fun hv => ?_
    split
    · exact raise_moves hs .invalidArgument
    · next h =>
      obtain ⟨ha, rfl⟩ : address.toNat ≤ 0x7FFF ∧ nodst = false := by simpa [maxAddr] using h
      exact resume_moves (p := .memRdatPtr address) hs ⟨hv, ha, rfl⟩
  | memCursor =>
    simp only [execState, exec, execMemCursor]
    exact requireMem_moves hs fun _ => .responds hs (responseLegal_value s.cursor 0)

theorem step_moves {s t : State} (h : step s = .next t) : Moves s t := by
  cases hq : s.sequencer with
  | idle =>
    obtain rfl := Host.Outcome.next.inj ((step_idle hq).symm.trans h)
    cases hw : s.stream[s.cmdIdx]? with
    | some w => exact acceptNext_some hw ▸ .accepts hq hw
    | none => exact (acceptNext_none hw).symm ▸ .stays hq
  | exec w =>
    cases hd : decode w with
    | ok i =>
      obtain rfl := execState_eq_of_next ((step_exec_ok hq hd).symm.trans h)
      obtain rfl := encode_eq_of_decode hd
      exact execState_moves hq
    | error e =>
      obtain rfl := Host.Outcome.next.inj ((step_exec_illegal hq hd).symm.trans h)
      exact .responds hq (responseLegal_status .illegalCommand)
  | bus w p =>
    obtain rfl := Host.Outcome.next.inj ((step_bus hq).symm.trans h)
    exact .resumes hq (resume_resumes w p s)
  | wait w d =>
    obtain rfl := Host.Outcome.next.inj ((step_wait hq).symm.trans h)
    exact .endsWait hq

/-! ### The cursor's range -/

/-- R26's range of the cursor. -/
def State.CursorInRange (s : State) : Prop := s.memValid = true → s.cursor.toNat ≤ 0x7FFF

theorem nextCursor_le {c : Half} (h : c.toNat ≤ 0x7FFF) : (nextCursor c).toNat ≤ 0x7FFF := by
  unfold nextCursor
  split
  · decide
  · next hc =>
    have hne : c ≠ 0x7FFF#16 := hc
    bv_omega

/-- The refresh writes `TS_RES` alone, and leaves its value unless the strap is set. -/
theorem refreshCache_eq_setTsRes (w : Byte) (s : State) :
    ∃ r, refreshCache w s = s.setTsRes r ∧ (r ≠ s.tsRes → s.trigUpdatesCache = true) := by
  unfold refreshCache
  split
  · next h => exact ⟨resOf w, rfl, fun _ => h⟩
  · exact ⟨s.tsRes, rfl, absurd rfl⟩

theorem Concludes.cursorInRange {cur : Word} {p : Position} {s t : State} (ht : Concludes cur s p t)
    (h : s.CursorInRange) : t.CursorInRange := by
  cases ht with
  | responds hr => exact h
  | initialises hp => exact h
  | configures v => exact h
  | triggers w =>
    obtain ⟨r, e, -⟩ := refreshCache_eq_setTsRes w s
    exact e ▸ h
  | appends d => exact fun hv => nextCursor_le (h hv)

theorem Resumes.cursorInRange {cur : Word} {p : Position} {s t : State} (ht : Resumes cur p s t)
    (h : s.CursorInRange) : t.CursorInRange := by
  induction ht with
  | outstanding ha => exact h
  | goesOn ha hf ht ih => exact ih h
  | concludes ha ht => exact ht.cursorInRange h

theorem Moves.cursorInRange {s t : State} (ht : Moves s t) (h : s.CursorInRange) : t.CursorInRange := by
  cases ht with
  | stays hs => exact h
  | accepts hs hw => exact h
  | responds hs hr => exact h
  | constructsMemory a hs => exact fun _ => Nat.zero_le _
  | constructsSensor a hs ht => exact ht.cursorInRange h
  | requests hs hp ht => exact ht.cursorInRange h
  | resumes hs ht => exact ht.cursorInRange h
  | endsWait hs => exact h

/-! ### One response for each command -/

/-- From s to t no response is delivered, or one, which ends the command (R21, R125). -/
def State.CountsTo (s t : State) : Prop :=
  (t.responses = s.responses ∧ t.cmdIdx = s.cmdIdx) ∨
  ∃ r, t.responses = s.responses ++ [r] ∧ t.cmdIdx = s.cmdIdx + 1 ∧ t.phase = .idle

theorem State.CountsTo.deliver (s : State) (r : Word) : s.CountsTo (s.deliver r) := .inr ⟨r, rfl, rfl, rfl⟩

theorem Concludes.countsTo {cur : Word} {p : Position} {s t : State} (ht : Concludes cur s p t) : s.CountsTo t := by
  cases ht with
  | responds hr => exact .deliver s _
  | initialises hp => exact .deliver _ _
  | configures v => exact .deliver _ _
  | triggers w =>
    obtain ⟨r, e, -⟩ := refreshCache_eq_setTsRes w s
    exact e ▸ .inl ⟨rfl, rfl⟩
  | appends d => exact .inl ⟨rfl, rfl⟩

theorem Resumes.countsTo {cur : Word} {p : Position} {s t : State} (ht : Resumes cur p s t) : s.CountsTo t := by
  induction ht with
  | outstanding ha => exact .inl ⟨rfl, rfl⟩
  | goesOn ha hf ht ih => exact ih
  | concludes ha ht => exact ht.countsTo

theorem Moves.countsTo {s t : State} (ht : Moves s t) : s.CountsTo t := by
  cases ht with
  | stays hs => exact .inl ⟨rfl, rfl⟩
  | accepts hs hw => exact .inl ⟨rfl, rfl⟩
  | responds hs hr => exact .deliver s _
  | constructsMemory a hs => exact .deliver _ _
  | constructsSensor a hs ht => exact ht.countsTo
  | requests hs hp ht => exact ht.countsTo
  | resumes hs ht => exact ht.countsTo
  | endsWait hs => exact .deliver _ _

/-! ### The writers of each register -/

/-- The writes of the six registers that the command in `cur` may make, from r to r' (R20, R22 to R25). -/
structure WritesAllowed (cur : Option Word) (strap : Bool) (r r' : Registers) : Prop where
  tsValid : r'.tsValid ≠ r.tsValid → r'.tsValid = true ∧ ∃ a, cur = some (encode (.tsInit a))
  memValid : r'.memValid ≠ r.memValid → r'.memValid = true ∧ ∃ a, cur = some (encode (.memInit a))
  tsAddr : r'.tsAddr ≠ r.tsAddr → cur = some (encode (.tsInit r'.tsAddr))
  memAddr : r'.memAddr ≠ r.memAddr → cur = some (encode (.memInit r'.memAddr))
  tsRes : r'.tsRes ≠ r.tsRes → (∃ a, cur = some (encode (.tsInit a))) ∨
    (∃ v, cur = some (encode (.tsWrcfg v)) ∧ r'.tsRes = resOf v) ∨ (cur = some (encode .tsTrig) ∧ strap = true)
  cursor : r'.cursor ≠ r.cursor → (∃ a, cur = some (encode (.memInit a)) ∧ r'.cursor = 0) ∨
    (∃ d, cur = some (encode (.memWrseq d)) ∧ r'.cursor = nextCursor r.cursor)

section Writers
variable {cur : Word} {p : Position} {s t : State}

theorem WritesAllowed.refl (cur : Option Word) (strap : Bool) (r : Registers) : WritesAllowed cur strap r r :=
  ⟨absurd rfl, absurd rfl, absurd rfl, absurd rfl, absurd rfl, absurd rfl⟩

theorem WritesAllowed.refreshCache (w : Byte) (s : State) :
    WritesAllowed (some (encode .tsTrig)) s.trigUpdatesCache s.registers (refreshCache w s).registers := by
  obtain ⟨r, e, hr⟩ := refreshCache_eq_setTsRes w s
  rw [e]
  exact { refl _ s.trigUpdatesCache s.registers with tsRes := fun h => .inr (.inr ⟨rfl, hr h⟩) }

theorem oneShotFlag_withOneShot (b : Byte) : oneShotFlag (withOneShot b) = true := by
  simp [oneShotFlag, withOneShot]

theorem shutdownFlag_withOneShot (b : Byte) : shutdownFlag (withOneShot b) = shutdownFlag b := by
  simp [shutdownFlag, withOneShot]

theorem Position.Follows.positionLegal {p' : Position} (hf : p.Follows p') (h : PositionLegal p cur s) :
    PositionLegal p' cur s := by
  cases hf with
  | tsInitRd => exact h
  | tsTrigRd => exact h
  | tsTrigWr b hb =>
    obtain ⟨hv, hcur⟩ := h
    exact ⟨hv, hcur, oneShotFlag_withOneShot b, (shutdownFlag_withOneShot b).trans hb⟩
  | tsRdrawRd => exact h
  | memRdatRd a =>
    obtain ⟨hv, ha⟩ := h
    exact ⟨hv, a, ha⟩

theorem Concludes.writesAllowed (ht : Concludes cur s p t) (hp : PositionLegal p cur s) :
    WritesAllowed (some cur) s.trigUpdatesCache s.registers t.registers := by
  cases ht with
  | responds hr => exact .refl _ _ _
  | initialises hq =>
    have hcur : cur = encode (.tsInit s.tsAddr) := by rcases hq with rfl | rfl <;> exact hp
    exact { WritesAllowed.refl _ s.trigUpdatesCache s.registers with
      tsValid := fun _ => ⟨rfl, s.tsAddr, congrArg some hcur⟩
      tsRes := fun _ => .inl ⟨s.tsAddr, congrArg some hcur⟩ }
  | configures v =>
    obtain ⟨-, rfl⟩ := hp
    exact { WritesAllowed.refl _ s.trigUpdatesCache s.registers with
      tsRes := fun _ => .inr (.inl ⟨v, rfl, rfl⟩) }
  | triggers w =>
    obtain ⟨-, rfl, -, -⟩ := hp
    exact .refreshCache w s
  | appends d =>
    obtain ⟨-, rfl⟩ := hp
    exact { WritesAllowed.refl _ s.trigUpdatesCache s.registers with
      cursor := fun _ => .inr ⟨d, rfl, rfl⟩ }

theorem Resumes.writesAllowed (ht : Resumes cur p s t) (hp : PositionLegal p cur s) :
    WritesAllowed (some cur) s.trigUpdatesCache s.registers t.registers := by
  induction ht with
  | outstanding ha => exact .refl _ _ _
  | goesOn ha hf ht ih => exact ih (hf.positionLegal hp)
  | concludes ha ht => exact ht.writesAllowed hp

theorem cur_of_exec (hs : s.sequencer = .exec cur) : s.cur = some cur := by
  simp only [State.cur, hs]

theorem cur_of_bus (hs : s.sequencer = .bus cur p) : s.cur = some cur := by
  simp only [State.cur, hs]

theorem positionLegal_of_bus (hs : s.sequencer = .bus cur p) (h : SequencerLegal s) : PositionLegal p cur s := by
  simpa [SequencerLegal, hs] using h

theorem Moves.writesAllowed (ht : Moves s t) (h : SequencerLegal s) :
    WritesAllowed s.cur s.trigUpdatesCache s.registers t.registers := by
  cases ht with
  | stays hs => exact .refl _ _ _
  | accepts hs hw => exact .refl _ _ _
  | responds hs hr => exact .refl _ _ _
  | constructsMemory a hs =>
    have hcur := cur_of_exec hs
    exact { WritesAllowed.refl _ s.trigUpdatesCache s.registers with
      memValid := fun _ => ⟨rfl, a, hcur⟩
      memAddr := fun _ => hcur
      cursor := fun _ => .inl ⟨a, hcur, rfl⟩ }
  | constructsSensor a hs ht =>
    rw [cur_of_exec hs]
    exact { ht.writesAllowed (p := .tsInitPtr) rfl with
      tsAddr := fun _ => by
        by_cases ha : t.tsAddr = a
        · exact congrArg (fun x => some (encode (.tsInit x))) ha.symm
        · exact (ht.writesAllowed (p := .tsInitPtr) rfl).tsAddr ha }
  | requests hs hp ht =>
    rw [cur_of_exec hs]
    exact ht.writesAllowed hp
  | resumes hs ht =>
    rw [cur_of_bus hs]
    exact ht.writesAllowed (positionLegal_of_bus hs h)
  | endsWait hs => exact .refl _ _ _

end Writers

/-! ### The machine's invariant -/

/-- The part of the invariant that holds inside a command too: all but the clauses on the sequencer. -/
structure State.RecordLegal (s : State) : Prop where
  cursor : s.CursorInRange
  count : s.cmdIdx = s.responses.length
  responses : ∀ r ∈ s.responses, ResponseLegal r
  trace : ∀ e ∈ s.trace, EventLegal e

section Invariant
variable {cur : Word} {p : Position} {s t : State}

theorem State.Inv.recordLegal (h : s.Inv) : s.RecordLegal := ⟨h.cursor, h.count, h.responses, h.trace⟩

namespace State.RecordLegal

theorem setTsValid (h : s.RecordLegal) (v : Bool) : (s.setTsValid v).RecordLegal :=
  ⟨h.cursor, h.count, h.responses, h.trace⟩

theorem setTsAddr (h : s.RecordLegal) (a : Addr7) : (s.setTsAddr a).RecordLegal :=
  ⟨h.cursor, h.count, h.responses, h.trace⟩

theorem setTsRes (h : s.RecordLegal) (r : ResCode) : (s.setTsRes r).RecordLegal :=
  ⟨h.cursor, h.count, h.responses, h.trace⟩

theorem setMemAddr (h : s.RecordLegal) (a : Addr7) : (s.setMemAddr a).RecordLegal :=
  ⟨h.cursor, h.count, h.responses, h.trace⟩

theorem setCursor (h : s.RecordLegal) {c : Half} (hc : c.toNat ≤ 0x7FFF) : (s.setCursor c).RecordLegal :=
  ⟨fun _ => hc, h.count, h.responses, h.trace⟩

theorem setMemValid (h : s.RecordLegal) (v : Bool) (hc : s.cursor.toNat ≤ 0x7FFF) : (s.setMemValid v).RecordLegal :=
  ⟨fun _ => hc, h.count, h.responses, h.trace⟩

theorem record (h : s.RecordLegal) {e : Event} (he : EventLegal e) : (s.record e).RecordLegal where
  cursor := h.cursor
  count := h.count
  responses := h.responses
  trace := List.forall_mem_append.mpr ⟨h.trace, List.forall_mem_singleton.mpr he⟩

theorem deliver (h : s.RecordLegal) {r : Word} (hr : ResponseLegal r) : (s.deliver r).Inv where
  cursor := h.cursor
  count := by simp [h.count]
  current := nofun
  sequencer := trivial
  responses := List.forall_mem_append.mpr ⟨h.responses, List.forall_mem_singleton.mpr hr⟩
  trace := h.trace

theorem done (h : s.RecordLegal) : s.done.Inv := h.deliver (responseLegal_status .ok)

/-- A command in progress, in a legal place with a legal record. -/
theorem setSequencer (h : s.RecordLegal) {q : Sequencer} (hq : SequencerLegal (s.setSequencer q))
    (hcur : (s.setSequencer q).cur = some cur) (hw : s.stream[s.cmdIdx]? = some cur) : (s.setSequencer q).Inv where
  cursor := h.cursor
  count := h.count
  current _ h' := Option.some.inj (hcur.symm.trans h') ▸ hw
  sequencer := hq
  responses := h.responses
  trace := h.trace

end State.RecordLegal

theorem readAddress_direction (a7 : Addr7) : (readAddress a7).getLsbD 0 = true := by
  simp only [readAddress, BitVec.getLsbD_append]
  simp

theorem writeAddress_direction (a7 : Addr7) : (writeAddress a7).getLsbD 0 = false := by
  simp only [writeAddress, BitVec.getLsbD_append]
  simp

theorem transmit_legal (a7 : Addr7) {bytes : List Byte} (h : PayloadLegal bytes) :
    RequestLegal (transmit (writeAddress a7) bytes) := ⟨writeAddress_direction a7, rfl, rfl, h⟩

theorem receive_legal (a7 : Addr7) {n : Nat} (h : n = 1 ∨ n = 2) : RequestLegal (receive (readAddress a7) n) :=
  ⟨readAddress_direction a7, h, rfl⟩

theorem request_legal (hp : PositionLegal p cur s) (hc : s.CursorInRange) : RequestLegal (p.request s) := by
  cases p with
  | tsInitPtr | tsTrigPtr => exact transmit_legal _ (.inr (.inl rfl))
  | tsRdrawPtr => exact transmit_legal _ (.inl rfl)
  | tsWrcfgWr v | tsTrigWr v => exact transmit_legal _ (.inr (.inr (.inl ⟨v, rfl⟩)))
  | memWrseqWr d =>
    obtain ⟨hv, -⟩ := hp
    exact transmit_legal _ (.inr (.inr (.inr ⟨s.cursor, hc hv, .inr ⟨d, rfl⟩⟩)))
  | memRdatPtr a =>
    obtain ⟨-, ha, -⟩ := hp
    exact transmit_legal _ (.inr (.inr (.inr ⟨a, ha, .inl rfl⟩)))
  | tsInitRd | tsTrigRd => exact receive_legal _ (.inl rfl)
  | tsRdrawRd | memRdatRd => exact receive_legal _ (.inr rfl)

theorem reply_fits {q : Request} (hq : RequestLegal q) (a : Answer) : ReplyFits q (q.reply a) := by
  cases q with
  | tx a8 bytes n t => cases a <;> trivial
  | rx a8 n t =>
    cases a with
    | ok b0 b1 => obtain ⟨-, rfl | rfl, -⟩ := hq <;> rfl
    | fail => trivial

/-- The wait that a legal sequencer is in is one of the two of R119. -/
theorem eventLegal_of_wait {d : Duration} (hs : s.sequencer = .wait cur d) (h : SequencerLegal s) :
    EventLegal (.wait d) := by
  simp only [SequencerLegal, hs] at h
  rcases h with ⟨-, -, hd⟩ | ⟨-, -, -, hd⟩
  · exact .inr ⟨_, hd⟩
  · exact .inl hd

theorem State.RecordLegal.answered (h : s.RecordLegal) (hp : PositionLegal p cur s) (a : Answer)
    (rest : List Answer) : (s.answered cur (p.request s) a rest).RecordLegal :=
  have hq := request_legal hp h.cursor
  have hr := h.record (e := .transfer _ _) ⟨hq, reply_fits hq a⟩
  ⟨hr.cursor, hr.count, hr.responses, hr.trace⟩

theorem Concludes.inv (ht : Concludes cur s p t) (h : s.RecordLegal) (hp : PositionLegal p cur s)
    (hw : s.stream[s.cmdIdx]? = some cur) : t.Inv := by
  cases ht with
  | responds hr => exact h.deliver hr
  | initialises hq => exact ((h.setTsRes _).setTsValid true).done
  | configures v => exact (h.setTsRes _).done
  | triggers w =>
    obtain ⟨r, e, -⟩ := refreshCache_eq_setTsRes w s
    obtain ⟨hv, hcur, -, -⟩ := hp
    exact e ▸ (h.setTsRes r).setSequencer (Or.inl ⟨hv, hcur, rfl⟩) rfl hw
  | appends d =>
    obtain ⟨hv, hcur⟩ := hp
    exact (h.setCursor (nextCursor_le (h.cursor hv))).setSequencer (Or.inr ⟨hv, d, hcur, rfl⟩) rfl hw

theorem Resumes.inv (ht : Resumes cur p s t) (h : s.RecordLegal) (hp : PositionLegal p cur s)
    (hw : s.stream[s.cmdIdx]? = some cur) : t.Inv := by
  induction ht with
  | outstanding ha => exact h.setSequencer hp rfl hw
  | goesOn ha hf ht ih => exact ih (h.answered hp _ _) (hf.positionLegal hp) hw
  | concludes ha ht => exact ht.inv (h.answered hp _ _) hp hw

theorem Moves.inv (ht : Moves s t) (h : s.Inv) : t.Inv := by
  have hr := h.recordLegal
  cases ht with
  | stays hs => exact h
  | accepts hs hw => exact hr.setSequencer trivial rfl hw
  | responds hs hl => exact hr.deliver hl
  | constructsMemory a hs =>
    exact (((hr.setMemAddr a).setCursor (Nat.zero_le _)).setMemValid true (Nat.zero_le _)).done
  | constructsSensor a hs ht =>
    exact ht.inv (hr.setTsAddr a) rfl (h.current _ (cur_of_exec hs))
  | requests hs hp ht => exact ht.inv hr hp (h.current _ (cur_of_exec hs))
  | resumes hs ht => exact ht.inv hr (positionLegal_of_bus hs h.sequencer) (h.current _ (cur_of_bus hs))
  | endsWait hs => exact (hr.record (eventLegal_of_wait hs h.sequencer)).done

end Invariant

/-! ### Answers that come late -/

/-- What k leaves in BUS, the step with the answers `late` ends as k does with them from the start. -/
def ContinuesLate (k : State → State) : Prop :=
  ∀ (s : State) (late : List Answer), (k s).phase = .bus →
    step ((k s).setAnswers late) = .next (k (s.setAnswers (s.answers ++ late)))

theorem resume_setSequencer (s : State) (q : Sequencer) (cur : Word) (p : Position) :
    (s.setSequencer q).resume cur p = s.resume cur p := by
  cases h : s.answers with
  | nil => exact (resume_none cur p (s := s.setSequencer q) h).trans (resume_none cur p h).symm
  | cons a rest => exact (resume_some cur p (s := s.setSequencer q) h).trans (resume_some cur p h).symm

theorem Concludes.phase_ne_bus {cur : Word} {p : Position} {s t : State} (ht : Concludes cur s p t) :
    t.phase ≠ .bus := by
  cases ht <;> exact nofun

theorem resume_continuesLate (cur : Word) (p : Position) : ContinuesLate (State.resume · cur p) := by
  intro s late
  dsimp only
  induction ha : s.answers generalizing p s with
  | nil =>
    rw [resume_none cur p ha, step_bus rfl]
    exact fun _ => congrArg _ (resume_setSequencer (s.setAnswers late) _ cur p)
  | cons a rest ih =>
    rw [resume_some cur p ha, resume_some cur p (s := s.setAnswers (a :: rest ++ late)) rfl]
    rcases rest_cases p cur a with ⟨p', -, e⟩ | hc
    · rw [e, e]
      exact ih p' _ rfl
    · exact fun hb => absurd hb (hc _).phase_ne_bus

theorem deliver_continuesLate (r : State → Word) : ContinuesLate fun s => s.deliver (r s) := nofun

theorem ite_continuesLate (b : Prop) [Decidable b] {k k' : State → State} (hk : ContinuesLate k)
    (hk' : ContinuesLate k') : ContinuesLate fun s => if b then k s else k' s := by
  split
  · exact hk
  · exact hk'

theorem requireTs_continuesLate {k : State → State} (hk : ContinuesLate k) : ContinuesLate (requireTs k) := by
  intro s late
  rcases requireTs_cases k s with ⟨h, e⟩ | ⟨h, e⟩
  · exact e ▸ nofun
  · rw [e, requireTs_valid k (s := s.setAnswers (s.answers ++ late)) h]
    exact hk s late

theorem requireMem_continuesLate {k : State → State} (hk : ContinuesLate k) : ContinuesLate (requireMem k) := by
  intro s late
  rcases requireMem_cases k s with ⟨h, e⟩ | ⟨h, e⟩
  · exact e ▸ nofun
  · rw [e, requireMem_valid k (s := s.setAnswers (s.answers ++ late)) h]
    exact hk s late

theorem execState_continuesLate (i : Instr) : ContinuesLate (execState i) := by
  cases i with
  | tsInit addr => exact fun s => resume_continuesLate _ .tsInitPtr (s.setTsAddr addr)
  | tsWrcfg cfg => exact requireTs_continuesLate (resume_continuesLate _ (.tsWrcfgWr cfg))
  | tsTrig => exact requireTs_continuesLate (resume_continuesLate _ .tsTrigPtr)
  | tsRdraw nodst =>
    exact requireTs_continuesLate
      (ite_continuesLate _ (deliver_continuesLate _) (resume_continuesLate _ .tsRdrawPtr))
  | tsConv raw => exact requireTs_continuesLate (deliver_continuesLate _)
  | memInit addr => exact nofun
  | memWrseq data => exact requireMem_continuesLate (resume_continuesLate _ (.memWrseqWr data))
  | memRdat address nodst =>
    exact requireMem_continuesLate
      (ite_continuesLate _ (deliver_continuesLate _) (resume_continuesLate _ (.memRdatPtr address)))
  | memCursor => exact requireMem_continuesLate (deliver_continuesLate _)

/-! ### The obligations -/

/-- Settles O37: each of the moves that a step can be keeps the invariant. -/
theorem everyStepKeepsTheInvariant : Obligations.EveryStepKeepsTheInvariant :=
  fun _ _ hinv h => (step_moves h).inv hinv

/-- Settles O33: a command left in BUS goes on from the continuation that its own meaning gave there. -/
theorem lateAnswersMakeNoDifference : Obligations.LateAnswersMakeNoDifference := by
  intro i s t early late h hbus
  obtain rfl := execState_eq_of_next h
  rw [exec_eq_next]
  exact execState_continuesLate i (s.setAnswers early) late hbus

/-- Settles O38: only MEM_INIT, which writes 0, and MEM_WRSEQ, which writes the next cursor, write the cursor. -/
theorem cursorStaysInRange : Obligations.CursorStaysInRange := by
  refine ⟨nofun, fun s t hs h hv => ?_⟩
  have hle : t.cursor.toNat ≤ 0x7FFF := (step_moves h).cursorInRange hs hv
  exact ⟨hle, Nat.testBit_lt_two_pow (Nat.lt_succ_of_le hle)⟩

/-- Settles O39: the only move of `CMD_IDX` is the delivery of a response. -/
theorem cmdIdxCountsTheResponses : Obligations.CmdIdxCountsTheResponses :=
  ⟨rfl, fun _ _ h => (step_moves h).countsTo⟩

/-- Settles O43: a command's writes are its own, at every position that belongs to it. -/
theorem eachRegisterHasItsWriters : Obligations.EachRegisterHasItsWriters := by
  intro s t hs h
  obtain ⟨htv, hmv, hta, hma, hres, hcursor⟩ := (step_moves h).writesAllowed hs
  exact ⟨htv, hmv, hta, hma, hres, hcursor⟩

/-- Settles O29: the step by phase, at IDLE with and without a word. -/
theorem idleAcceptsTheWordAtCmdIdx : Obligations.IdleAcceptsTheWordAtCmdIdx := by
  intro s hs
  refine ⟨fun w hw => ?_, fun hw => ?_⟩ <;> rw [step_idle hs]
  · rw [acceptNext_some hw]; rfl
  · rw [acceptNext_none hw]

/-- Settles O30: the step by phase, at WAIT. -/
theorem waitEndsWithTheResponse : Obligations.WaitEndsWithTheResponse := by
  intro s w t hs
  rw [step_wait hs, State.endWait_eq]
  rfl

/-- Settles O35, field by field of the reset state. -/
theorem resetLeavesBothUnitsInvalid : Obligations.ResetLeavesBothUnitsInvalid := ⟨rfl, rfl, rfl, rfl, rfl⟩

/-- Settles O36: nothing is recorded and no command is in progress. -/
theorem invariantHoldsAtReset : Obligations.InvariantHoldsAtReset where
  cursor := nofun
  count := rfl
  current := nofun
  sequencer := trivial
  responses := nofun
  trace := nofun

end Sys2Proof.Machine
end

section
/-! PROOFS, family 20_memory: each command makes the frames of its row in order (O46); on the reference platform no
request meets the memory's write cycle (O48), and what a failed append (O52) and a failed configuration write (O53)
leave behind. -/

namespace Sys2Proof

/-! ### Every word that the encoder makes is decoded -/

theorem extractLsb'_setWidth {n : Nat} (hn : n ≤ 16) (x : BitVec n) : (x.setWidth 16).extractLsb' 0 n = x := by
  apply BitVec.eq_of_toNat_eq
  simp [BitVec.extractLsb'_toNat, Nat.mod_eq_of_lt (lt_of_lt_of_le x.isLt (Nat.pow_le_pow_right (by decide) hn))]

theorem withoutNodst_commandWord (x : Half) (op : BitVec 4) (k : Except DecodeError Instr) :
    withoutNodst (commandWord x false op) k = k := by
  simp [withoutNodst, nodstOf_commandWord]

/-- An operand extended from n bits passes the check for n bits. -/
theorem withOperandBits_commandWord {n : Nat} (x : BitVec n) (nd : Bool) (op : BitVec 4)
    (k : Except DecodeError Instr) : withOperandBits (commandWord (x.setWidth 16) nd op) n k = k := by
  rw [withOperandBits, operandOf_commandWord, BitVec.toNat_setWidth]
  exact if_pos ((Nat.mod_le _ _).trans_lt x.isLt)

theorem withOperandBits_zero (nd : Bool) (op : BitVec 4) (k : Except DecodeError Instr) :
    withOperandBits (commandWord 0#16 nd op) 0 k = k :=
  withOperandBits_commandWord (0 : BitVec 0) nd op k

theorem decode_encode (i : Instr) : decode (encode i) = .ok i := by
  cases i <;>
    simp [encode, decode, rsvOf_commandWord, opOf_commandWord, nodstOf_commandWord, operandOf_commandWord,
      withoutNodst_commandWord, withOperandBits_commandWord, withOperandBits_zero, extractLsb'_setWidth]

end Sys2Proof

namespace Sys2Proof.Machine

/-! ### The frames that a part of a command makes -/

/-- From s to t the command makes `row` of its frames in order, up to the one outstanding, and all of them if it comes
to its wait or, where `okEnds` says that an OK response is no fallback, to an OK response (R42, R114). -/
def State.MakesFrames (okEnds : Prop) (row : List (Option FrameShape)) (s t : State) : Prop :=
  ∃ made : List Event, t.trace = s.trace ++ made ∧
    (made.map Event.shape ++ t.outstanding) <+: row ∧
    (t.phase = .wait ∨ (∃ r, t.responses = s.responses ++ [r] ∧ respStatus r = 0 ∧ okEnds) →
      made.map Event.shape = row)

section Frames
variable {okEnds : Prop} {row : List (Option FrameShape)}

namespace State.MakesFrames
variable {s t : State}

theorem deliver {r : Word} (h : respStatus r = 0 → okEnds → row = []) : s.MakesFrames okEnds row (s.deliver r) := by
  refine ⟨[], (List.append_nil _).symm, List.nil_prefix, ?_⟩
  rintro (hw | ⟨r', hr, h0, hok⟩)
  · cases hw
  · obtain rfl : r = r' := by simpa using hr
    exact (h h0 hok).symm

theorem error {r : Word} (h : respStatus r ≠ 0) : s.MakesFrames okEnds row (s.deliver r) :=
  deliver fun h0 => absurd h0 h

theorem respond {r : Word} : s.MakesFrames okEnds [] (s.deliver r) := deliver fun _ _ => rfl

theorem wait {cur : Word} {d : Duration} (hs : t.sequencer = .wait cur d) (ht : t.trace = s.trace) :
    s.MakesFrames okEnds [] t :=
  ⟨[], by simp [ht], by simp [State.outstanding, hs], fun _ => rfl⟩

theorem outstanding {cur : Word} {p : Position} {f : FrameShape} (hf : (p.request s).shape = f) :
    s.MakesFrames okEnds (some f :: row) (s.setSequencer (.bus cur p)) := by
  refine ⟨[], (List.append_nil _).symm, ⟨row, congrArg (fun x => some x :: row) hf⟩, ?_⟩
  rintro (hw | ⟨r, hr, -⟩)
  · cases hw
  · simp at hr

theorem answered {cur : Word} {q : Request} {a : Answer} {rest : List Answer} {f : FrameShape} (hf : q.shape = f)
    (h : (s.answered cur q a rest).MakesFrames okEnds row t) : s.MakesFrames okEnds (some f :: row) t := by
  obtain ⟨made, htrace, hprefix, hall⟩ := h
  refine ⟨.transfer q (q.reply a) :: made, by simp [htrace], ?_, fun he => ?_⟩
  · simpa [Event.shape, hf] using hprefix
  · simp [Event.shape, hf, hall he]

end State.MakesFrames

open State.MakesFrames

theorem awaitAnswer_makesFrames {f : FrameShape} {p : Position} {k : Answer → State → State}
    (hf : ∀ s, (p.request s).shape = f) (hk : ∀ a (s : State), s.MakesFrames okEnds row (k a s)) (cur : Word)
    (s : State) : s.MakesFrames okEnds (some f :: row) (awaitAnswer cur p k s) :=
  awaitAnswer_ind (fun _ => outstanding (hf s)) (fun a _ _ => answered (hf s) (hk a _))

theorem requireTs_makesFrames {k : State → State} (hk : ∀ s : State, s.MakesFrames okEnds row (k s)) (s : State) :
    s.MakesFrames okEnds row (requireTs k s) :=
  requireTs_ind (fun _ => error (by decide)) (fun _ => hk s)

theorem requireMem_makesFrames {k : State → State} (hk : ∀ s : State, s.MakesFrames okEnds row (k s)) (s : State) :
    s.MakesFrames okEnds row (requireMem k s) :=
  requireMem_ind (fun _ => error (by decide)) (fun _ => hk s)

theorem ite_makesFrames {k k' : State → State} (b : Prop) [Decidable b]
    (hk : ∀ s : State, s.MakesFrames okEnds row (k s)) (hk' : ∀ s : State, s.MakesFrames okEnds row (k' s))
    (s : State) : s.MakesFrames okEnds row (if b then k s else k' s) := by
  split
  · exact hk s
  · exact hk' s

theorem finishRead_makesFrames (a : Answer) (s : State) : s.MakesFrames okEnds [] (finishRead a s) := by
  cases a <;> exact respond

theorem afterPtr_makesFrames {f : FrameShape} {rd : Position} (hrd : ∀ s, (rd.request s).shape = f) (cur : Word)
    (a : Answer) (s : State) : s.MakesFrames okEnds [some f] (afterPtr cur rd a s) := by
  cases a with
  | ok b b' => exact awaitAnswer_makesFrames hrd finishRead_makesFrames cur s
  | fail => exact error (by decide)

/-- R81's two frames, then those of the rest of the command. A failed frame is the last one, so a command that gets no
byte must end with what it has made. -/
theorem readCfg_makesFrames {ptr rd : Position} {k : Option Byte → State → State}
    (hptr : ∀ s, (ptr.request s).shape = .sent 1) (hrd : ∀ s, (rd.request s).shape = .received 1)
    (hnone : ∀ row (s : State), s.MakesFrames okEnds row (k none s))
    (hsome : ∀ b (s : State), s.MakesFrames okEnds row (k (some b) s)) (cur : Word) (s : State) :
    s.MakesFrames okEnds (some (.sent 1) :: some (.received 1) :: row) (readCfg cur ptr rd k s) := by
  refine awaitAnswer_makesFrames hptr (fun a s => ?_) cur s
  cases a with
  | fail => exact hnone _ s
  | ok b b' =>
    refine awaitAnswer_makesFrames hrd (fun a s => ?_) cur s
    cases a with
    | fail => exact hnone _ s
    | ok b b' => exact hsome b s

theorem tsInitFinish_makesFrames (h : ¬okEnds) (cfg : Option Byte) (s : State) :
    s.MakesFrames okEnds row (tsInitFinish cfg s) := by
  have hdone : ∀ t : State, t.MakesFrames okEnds row t.done := fun t => deliver fun _ hok => absurd hok h
  cases cfg <;> exact hdone _

theorem tsWrcfgFinish_makesFrames (v : Byte) (a : Answer) (s : State) :
    s.MakesFrames okEnds [] (tsWrcfgFinish v a s) := by
  cases a with
  | ok b b' => exact respond (s := s.setTsRes (resOf v))
  | fail => exact respond

theorem tsTrigFinish_makesFrames (cur : Word) (w : Byte) (a : Answer) (s : State) :
    s.MakesFrames okEnds [] (tsTrigFinish cur w a s) := by
  cases a with
  | ok b b' =>
    obtain ⟨r, e, -⟩ := refreshCache_eq_setTsRes w s
    have ht : (refreshCache w s).trace = s.trace := by rw [e]; rfl
    exact wait rfl ht
  | fail => exact respond

theorem tsTrigCheck_none_makesFrames (cur : Word) (row : List (Option FrameShape)) (s : State) :
    s.MakesFrames okEnds row (tsTrigCheck cur none s) :=
  error (by decide)

theorem tsTrigCheck_some_makesFrames (cur : Word) (b : Byte) (s : State) :
    s.MakesFrames okEnds [some (.sent 2)] (tsTrigCheck cur (some b) s) :=
  ite_makesFrames _ (awaitAnswer_makesFrames (fun _ => rfl) (tsTrigFinish_makesFrames cur _) cur)
    (fun _ => error (by decide)) s

theorem memWrseqFinish_makesFrames (cur : Word) (a : Answer) (s : State) :
    s.MakesFrames okEnds [] (memWrseqFinish cur a s) := by
  cases a with
  | ok b b' => exact wait rfl rfl
  | fail => exact respond

theorem execState_makesFrames (i : Instr) (s : State) :
    s.MakesFrames (∀ a, i ≠ .tsInit a) (frameShapes i) (execState i s) := by
  cases i with
  | tsInit addr =>
    exact readCfg_makesFrames (fun _ => rfl) (fun _ => rfl)
      (fun _ => tsInitFinish_makesFrames (fun h => h addr rfl) none)
      (fun b => tsInitFinish_makesFrames (fun h => h addr rfl) (some b)) _ (s.setTsAddr addr)
  | tsWrcfg cfg =>
    exact requireTs_makesFrames (awaitAnswer_makesFrames (fun _ => rfl) (tsWrcfgFinish_makesFrames cfg) _) s
  | tsTrig =>
    exact requireTs_makesFrames (readCfg_makesFrames (fun _ => rfl) (fun _ => rfl)
      (tsTrigCheck_none_makesFrames _) (tsTrigCheck_some_makesFrames _) _) s
  | tsRdraw nodst =>
    exact requireTs_makesFrames (ite_makesFrames _ (fun _ => error (by decide))
      (awaitAnswer_makesFrames (fun _ => rfl) (afterPtr_makesFrames (fun _ => rfl) _) _)) s
  | tsConv raw => exact requireTs_makesFrames (fun _ => respond) s
  | memInit addr => exact respond (s := ((s.setMemAddr addr).setCursor 0).setMemValid true)
  | memWrseq data =>
    exact requireMem_makesFrames (awaitAnswer_makesFrames (fun _ => rfl) (memWrseqFinish_makesFrames _) _) s
  | memRdat address nodst =>
    exact requireMem_makesFrames (ite_makesFrames _ (fun _ => error (by decide))
      (awaitAnswer_makesFrames (fun _ => rfl) (afterPtr_makesFrames (fun _ => rfl) _) _)) s
  | memCursor => exact requireMem_makesFrames (fun _ => respond) s

end Frames

/-! ### Every step keeps a legal sequencer -/

section Sequencer
variable {cur : Word} {p : Position} {s t : State}

theorem Concludes.sequencerLegal (ht : Concludes cur s p t) (hp : PositionLegal p cur s) : SequencerLegal t := by
  cases ht with
  | responds hr => trivial
  | initialises hq => trivial
  | configures v => trivial
  | triggers w =>
    obtain ⟨r, e, -⟩ := refreshCache_eq_setTsRes w s
    obtain ⟨hv, hcur, -, -⟩ := hp
    exact e ▸ Or.inl ⟨hv, hcur, rfl⟩
  | appends d =>
    obtain ⟨hv, hcur⟩ := hp
    exact Or.inr ⟨hv, d, hcur, rfl⟩

theorem Resumes.sequencerLegal (ht : Resumes cur p s t) (hp : PositionLegal p cur s) : SequencerLegal t := by
  induction ht with
  | outstanding ha => exact hp
  | goesOn ha hf ht ih => exact ih (hf.positionLegal hp)
  | concludes ha ht => exact ht.sequencerLegal hp

theorem Moves.sequencerLegal (ht : Moves s t) (h : SequencerLegal s) : SequencerLegal t := by
  cases ht with
  | stays hs => exact h
  | accepts hs hw => trivial
  | responds hs hr => trivial
  | constructsMemory a hs => trivial
  | constructsSensor a hs ht => exact ht.sequencerLegal rfl
  | requests hs hp ht => exact ht.sequencerLegal hp
  | resumes hs ht => exact ht.sequencerLegal (positionLegal_of_bus hs h)
  | endsWait hs => trivial

theorem resume_sequencerLegal (hs : s.sequencer = .bus cur p) (h : SequencerLegal s) :
    SequencerLegal (s.resume cur p) :=
  Moves.sequencerLegal (.resumes hs (resume_resumes cur p s)) h

end Sequencer

/-! ### The chip's step on the platform -/

theorem chipStep_eq_of_next {s t : State} (h : step s = .next t) : chipStep s = t := by
  simp only [chipStep, h]

theorem step_eq_next_chipStep (s : State) : step s = .next (chipStep s) := by
  have hnext : ∀ {t}, step s = .next t → step s = .next (chipStep s) := fun h =>
    h.trans (congrArg _ (chipStep_eq_of_next h).symm)
  cases hq : s.sequencer with
  | idle => exact hnext (step_idle hq)
  | exec w =>
    cases hd : decode w with
    | ok i => exact hnext ((step_exec_ok hq hd).trans (exec_eq_next i s))
    | error e => exact hnext (step_exec_illegal hq hd)
  | bus w p => exact hnext (step_bus hq)
  | wait w d => exact hnext (step_wait hq)

theorem chipStep_exec {s : State} {i : Instr} (h : s.sequencer = .exec (encode i)) : chipStep s = execState i s :=
  chipStep_eq_of_next ((step_exec_ok h (decode_encode i)).trans (exec_eq_next i s))

theorem chipStep_bus {s : State} {w : Word} {p : Position} (h : s.sequencer = .bus w p) : chipStep s = s.resume w p :=
  chipStep_eq_of_next (step_bus h)

theorem chipStep_sequencerLegal {s : State} (h : SequencerLegal s) : SequencerLegal (chipStep s) :=
  (step_moves (step_eq_next_chipStep s)).sequencerLegal h

/-! ### The platform's step, by phase -/

namespace Platform
variable {p : Platform} {w : Word} {pos : Position} {x : Draw} {rest : List Draw}

theorem step_of_idle (hs : p.chip.sequencer = .idle) : p.step = { p with chip := chipStep p.chip } := by
  simp only [Platform.step, hs]

theorem step_of_exec (hs : p.chip.sequencer = .exec w) :
    p.step = { p with chip := chipStep (p.chip.setAnswers []) } := by
  simp only [Platform.step, hs]

theorem step_of_wait {t : Duration} (hs : p.chip.sequencer = .wait w t) :
    p.step = { p with chip := chipStep p.chip, memory := { p.memory with busy := p.memory.busy && t != .tWr } } := by
  simp only [Platform.step, hs]

theorem step_of_bus_noDraw (hs : p.chip.sequencer = .bus w pos) (hd : p.draws = []) : p.step = p := by
  simp only [Platform.step, hs, Platform.answer, hd]

theorem step_of_bus {a : Answer} {sensor : RefSensor} {memory : RefMemory} (hs : p.chip.sequencer = .bus w pos)
    (hd : p.draws = x :: rest) (ha : serve p.sensor p.memory x (pos.request p.chip) = (a, sensor, memory)) :
    p.step =
      { chip := (p.chip.setAnswers [a]).resume w pos, sensor := sensor, memory := memory, draws := rest } := by
  simp only [Platform.step, hs, Platform.answer, hd, ha]
  rw [chipStep_bus (s := p.chip.setAnswers [a]) hs]

end Platform

/-! ### The memory's write cycle -/

/-- On the bus as at the memory alone: the memory becomes busy only by a 4-byte write that is answered OK. -/
theorem serve_busy {x x' : RefSensor} {m m' : RefMemory} {d : Draw} {q : Request} {r : Answer}
    (hv : serve x m d q = (r, x', m')) (h0 : m.busy = false) (h : m'.busy = true) :
    (∃ a b c e f n t, q = .tx a [b, c, e, f] n t) ∧ ∃ b0 b1, r = .ok b0 b1 := by
  unfold serve at hv
  split_ifs at hv <;> cases hv
  · cases h0.symm.trans h
  · exact serveMemory_busy m d q h0 h
  · cases h0.symm.trans h

/-- The only 4-byte write is MEM_WRSEQ's (R42). -/
theorem request_eq_fourBytes {p : Position} {s : State} {a b c e f : Byte} {n : Nat} {t : Duration}
    (h : p.request s = .tx a [b, c, e, f] n t) : ∃ d, p = .memWrseqWr d := by
  cases p with
  | memWrseqWr d => exact ⟨d, rfl⟩
  | _ => simp [Position.request, cfgPtr, cfgRd, cfgWr, tempPtr, tempRd, memPtr, memRd, transmit, receive, split] at h

/-- An append whose frame is answered OK comes to its wait of `T_WR` (R102). -/
theorem resume_memWrseqWr_ok {s : State} {b0 b1 : Byte} {rest : List Answer} (h : s.answers = .ok b0 b1 :: rest)
    (cur : Word) (d : Half) : (s.resume cur (.memWrseqWr d)).sequencer = .wait cur .tWr := by
  rw [resume_some cur _ h]
  rfl

namespace Platform
variable {p : Platform}

theorem Safe.busy_eq_false (h : p.Safe) (hne : ∀ cur, p.chip.sequencer ≠ .wait cur .tWr) :
    p.memory.busy = false := by
  cases hb : p.memory.busy with
  | false => rfl
  | true =>
    obtain ⟨cur, hw⟩ := h.busy hb
    exact absurd hw (hne cur)

theorem Safe.step (h : p.Safe) : p.step.Safe := by
  cases hs : p.chip.sequencer with
  | idle =>
    have hb : p.memory.busy = false := h.busy_eq_false (by simp [hs])
    rw [step_of_idle hs]
    exact ⟨chipStep_sequencerLegal h.sequencer, fun hb' => absurd (hb.symm.trans hb') nofun, h.items⟩
  | exec w =>
    have hb : p.memory.busy = false := h.busy_eq_false (by simp [hs])
    rw [step_of_exec hs]
    exact ⟨chipStep_sequencerLegal (s := p.chip.setAnswers []) h.sequencer,
      fun hb' => absurd (hb.symm.trans hb') nofun, h.items⟩
  | wait w t =>
    rw [step_of_wait hs]
    refine ⟨chipStep_sequencerLegal h.sequencer, fun hb => ?_, h.items⟩
    obtain ⟨hbusy, ht⟩ : p.memory.busy = true ∧ t ≠ .tWr := by simpa using hb
    obtain ⟨cur, hw⟩ := h.busy hbusy
    cases hs.symm.trans hw
    exact absurd rfl ht
  | bus w pos =>
    have hb : p.memory.busy = false := h.busy_eq_false (by simp [hs])
    cases hd : p.draws with
    | nil => rwa [step_of_bus_noDraw hs hd]
    | cons x rest =>
      rcases hv : serve p.sensor p.memory x (pos.request p.chip) with ⟨a, sensor, memory⟩
      rw [step_of_bus hs hd hv]
      obtain ⟨-, -, hitems⟩ := hv ▸ serve_keeps p.sensor p.memory x (pos.request p.chip) h.items
      refine ⟨resume_sequencerLegal (s := p.chip.setAnswers [a]) hs h.sequencer, fun hb' => ?_, hitems⟩
      obtain ⟨⟨_, _, _, _, _, _, _, hq⟩, b0, b1, rfl⟩ := serve_busy hv hb hb'
      obtain ⟨d, rfl⟩ := request_eq_fourBytes hq
      exact ⟨w, resume_memWrseqWr_ok rfl w d⟩

end Platform

/-! ### A failed frame on the platform -/

theorem merge_split (v : Half) : merge (v.extractLsb' 8 8) (v.extractLsb' 0 8) = v := by
  apply BitVec.eq_of_getLsbD_eq
  intro i hi
  simp only [merge, BitVec.getLsbD_append, BitVec.getLsbD_extractLsb']
  split_ifs with h
  · simp [h]
  · simp [show 8 + (i - 8) = i by omega, show i - 8 < 8 by omega]

theorem device_transmit (a7 : Addr7) (bytes : List Byte) : (transmit (writeAddress a7) bytes).device = a7 := by
  apply BitVec.eq_of_getLsbD_eq
  intro i hi
  simp only [transmit, Request.device, writeAddress, BitVec.getLsbD_extractLsb', BitVec.getLsbD_append]
  simp [hi]

section Serve
variable {d : Draw} (hd : d.failed = true)
include hd

theorem serveSensor_failed (s : RefSensor) (q : Request) : serveSensor s d q = (.fail, spoilSensor s d q) := by
  simp [serveSensor, hd]

theorem serveMemory_failed (m : RefMemory) (q : Request) : serveMemory m d q = (.fail, spoilMemory m d q) := by
  simp [serveMemory, hd]

theorem serve_failed_sensor {s : RefSensor} {q : Request} (m : RefMemory) (hq : q.device = s.addr) :
    serve s m d q = (.fail, spoilSensor s d q, m) := by
  simp [serve, hq, serveSensor_failed hd]

theorem serve_failed_memory {s : RefSensor} {m : RefMemory} {q : Request} (hq : q.device = m.addr)
    (hne : m.addr ≠ s.addr) : serve s m d q = (.fail, s, spoilMemory m d q) := by
  simp [serve, hq, hne, serveMemory_failed hd]

end Serve

/-- TRANSPORT_ERROR is the answer to a failed frame of every command but TS_INIT (R82, R114). -/
theorem resume_fail {s : State} {p : Position} (h : s.answers = [.fail]) (hptr : p ≠ .tsInitPtr)
    (hrd : p ≠ .tsInitRd) (cur : Word) :
    s.resume cur p = (s.answered cur (p.request s) .fail []).deliver 0x00000001#32 := by
  rw [resume_some cur p h]
  cases p with
  | tsInitPtr => exact absurd rfl hptr
  | tsInitRd => exact absurd rfl hrd
  | _ => rfl

theorem request_setAnswers (p : Position) (s : State) (as : List Answer) :
    p.request (s.setAnswers as) = p.request s := by
  cases p <;> rfl

theorem request_setSequencer (p : Position) (s : State) (q : Sequencer) :
    p.request (s.setSequencer q) = p.request s := by
  cases p <;> rfl

/-- Two steps from EXEC of a command whose first frame is at `pos` and is answered FAIL: the frame goes out, and the
command ends TRANSPORT_ERROR. -/
theorem Platform.run_two_of_fail {p : Platform} {i : Instr} {pos : Position} {x : Draw} {rest : List Draw}
    {sensor : RefSensor} {memory : RefMemory} (hs : p.chip.sequencer = .exec (encode i))
    (hi : execState i (p.chip.setAnswers []) = (p.chip.setAnswers []).setSequencer (.bus (encode i) pos))
    (hptr : pos ≠ .tsInitPtr) (hrd : pos ≠ .tsInitRd) (hd : p.draws = x :: rest)
    (ha : serve p.sensor p.memory x (pos.request p.chip) = (.fail, sensor, memory)) :
    p.run 2 =
      { chip := ((p.chip.setAnswers []).record (.transfer (pos.request p.chip) .fail)).deliver 0x00000001#32
        sensor := sensor, memory := memory, draws := rest } := by
  have hbus : p.step = { p with chip := (p.chip.setAnswers []).setSequencer (.bus (encode i) pos) } := by
    rw [step_of_exec hs, chipStep_exec (s := p.chip.setAnswers []) hs, hi]
  have hreq : pos.request ((p.chip.setAnswers []).setSequencer (.bus (encode i) pos)) = pos.request p.chip := by
    rw [request_setSequencer, request_setAnswers]
  calc p.run 2 = _ := congrArg Platform.step hbus
    _ = _ := step_of_bus (p := { p with chip := _ }) rfl hd (hreq ▸ ha)
    _ = _ := by
      rw [resume_fail rfl hptr hrd, request_setAnswers, hreq]
      rfl

theorem execState_memWrseq_unanswered {s : State} (h : s.memValid = true) (d : Half) :
    execState (.memWrseq d) (s.setAnswers []) =
      (s.setAnswers []).setSequencer (.bus (encode (.memWrseq d)) (.memWrseqWr d)) :=
  (requireMem_valid _ (s := s.setAnswers []) h).trans (awaitAnswer_none _ _ _ rfl)

theorem execState_tsWrcfg_unanswered {s : State} (h : s.tsValid = true) (v : Byte) :
    execState (.tsWrcfg v) (s.setAnswers []) =
      (s.setAnswers []).setSequencer (.bus (encode (.tsWrcfg v)) (.tsWrcfgWr v)) :=
  (requireTs_valid _ (s := s.setAnswers []) h).trans (awaitAnswer_none _ _ _ rfl)

theorem spoilMemory_memWr (m : RefMemory) (x : Draw) (s : State) (c d : Half) :
    spoilMemory m x (memWr s c d) =
      { m with items := writeItem m.items c.toNat x.remains.item, mptr := x.remains.mptr } := by
  simp [spoilMemory, memWr, transmit, split, merge_split]

theorem spoilSensor_cfgWr (y : RefSensor) (x : Draw) (s : State) (v : Byte) :
    spoilSensor y x (cfgWr s v) = { y with ptr := x.remains.ptr, cfg := x.remains.cfg, temp := x.remains.temp } := by
  simp [spoilSensor, cfgWr, transmit]

/-! ### The obligations -/

/-- Settles O46: each command's parts make the frames of its row one after the other. -/
theorem commandsMakeTheirFramesInOrder : Obligations.CommandsMakeTheirFramesInOrder := by
  intro i s t h
  obtain rfl := execState_eq_of_next h
  exact execState_makesFrames i s

/-- Settles O48: the memory becomes busy only in the step that brings MEM_WRSEQ to its wait, and that wait's end makes
it ready. -/
theorem noRequestMeetsTheWriteCycle : Obligations.NoRequestMeetsTheWriteCycle := by
  refine ⟨fun p h => h.step, fun p h hbus => h.busy_eq_false fun cur hw => ?_⟩
  simp [State.phase, hw] at hbus

/-- Settles O52: the failed frame is the only request, and it spoils the item of its own offset. -/
theorem failedAppendSpoilsItsItemAlone : Obligations.FailedAppendSpoilsItsItemAlone := by
  intro p d x rest hs hv haddr hne hbusy hitems hd hx
  have hserve : serve p.sensor p.memory x (memWr p.chip p.chip.cursor d) = _ :=
    serve_failed_memory hx ((device_transmit _ _).trans haddr) hne
  rw [spoilMemory_memWr] at hserve
  rw [Platform.run_two_of_fail (pos := .memWrseqWr d) hs (execState_memWrseq_unanswered hv d) nofun nofun hd hserve]
  exact ⟨rfl, rfl, rfl, hbusy, rfl, rfl, itemsWf_writeItem _ hitems _ _,
    by simp [itemAt_writeItem _ hitems], fun a ha => by simp [itemAt_writeItem _ hitems, ha]⟩

/-- Settles O53: the failed frame is the only request, and a failed frame to the configuration register spoils the
sensor's three registers. -/
theorem failedConfigurationWriteKeepsTheCache : Obligations.FailedConfigurationWriteKeepsTheCache := by
  intro p v x rest hs hv haddr hd hx
  have hserve : serve p.sensor p.memory x (cfgWr p.chip v) = _ :=
    serve_failed_sensor hx p.memory ((device_transmit _ _).trans haddr)
  rw [spoilSensor_cfgWr] at hserve
  rw [Platform.run_two_of_fail (pos := .tsWrcfgWr v) hs (execState_tsWrcfg_unanswered hv v) nofun nofun hd hserve]
  exact ⟨rfl, rfl, rfl, rfl, rfl, rfl⟩

end Sys2Proof.Machine
end

section
/-! PROOFS, family 30_encoding: decoding and encoding agree (O2), the legal words are the words of the opcode table (O1,
O3, O4), the assembler's words are the encoder's (O5, O6), and the fields of bytes and response words (O8, O9, O24).
That every step answers a next state (O34) is here too. -/

namespace Sys2Proof

/-! ### The rows of the opcode table, field by field -/

theorem word_eq_of_fields {w v : Word} (hx : operandOf w = operandOf v) (hr : rsvOf w = rsvOf v)
    (hn : nodstOf w = nodstOf v) (ho : opOf w = opOf v) : w = v := by
  replace hx := congrArg BitVec.toNat hx
  replace hr := congrArg BitVec.toNat hr
  replace ho := congrArg BitVec.toNat ho
  simp only [operandOf, rsvOf, opOf, BitVec.extractLsb'_toNat, Nat.shiftRight_eq_div_pow] at hx hr ho
  simp only [nodstOf, BitVec.getLsbD, Nat.testBit_eq_decide_div_mod_eq, decide_eq_decide] at hn
  apply BitVec.eq_of_toNat_eq
  omega

theorem accepts_iff_fields {r : TableRow} {w : Word} :
    r.accepts w = true ↔ operandOf w &&& operandOf r.mask = operandOf r.pattern ∧
      rsvOf w &&& rsvOf r.mask = rsvOf r.pattern ∧ (nodstOf w && nodstOf r.mask) = nodstOf r.pattern ∧
      opOf w &&& opOf r.mask = opOf r.pattern := by
  simp only [operandOf, rsvOf, nodstOf, opOf, ← BitVec.extractLsb'_and, ← BitVec.getLsbD_and, TableRow.accepts,
    beq_iff_eq]
  exact ⟨fun h => by simp [h], fun ⟨hx, hr, hn, ho⟩ => word_eq_of_fields hx hr hn ho⟩

theorem accepts_commandWord {r : TableRow} {x : Half} {nd : Bool} {op : BitVec 4} :
    r.accepts (commandWord x nd op) = true ↔ x &&& operandOf r.mask = operandOf r.pattern ∧
      0 = rsvOf r.pattern ∧ (nd && nodstOf r.mask) = nodstOf r.pattern ∧ op &&& opOf r.mask = opOf r.pattern := by
  simp [accepts_iff_fields, operandOf_commandWord, rsvOf_commandWord, nodstOf_commandWord, opOf_commandWord]

/-- Every row fixes the reserved bits and the opcode whole (R57, R60). -/
theorem rsvOf_opOf_of_accepts {r : TableRow} {w : Word} (hr : r ∈ opcodeTable) (h : r.accepts w = true) :
    rsvOf w = 0 ∧ opOf w = opOf r.pattern := by
  have hrow : ∀ r ∈ opcodeTable,
      rsvOf r.mask = BitVec.allOnes 11 ∧ rsvOf r.pattern = 0 ∧ opOf r.mask = BitVec.allOnes 4 := by decide
  obtain ⟨hmask, hpattern, hop⟩ := hrow r hr
  obtain ⟨_, hrsv, _, ho⟩ := accepts_iff_fields.mp h
  rw [hmask, hpattern, BitVec.and_allOnes] at hrsv
  rw [hop, BitVec.and_allOnes] at ho
  exact ⟨hrsv, ho⟩

theorem row_eq_of_accepts {r r' : TableRow} {w : Word} (hr : r ∈ opcodeTable) (hr' : r' ∈ opcodeTable)
    (h : r.accepts w = true) (h' : r'.accepts w = true) : r = r' := by
  have hinj : ∀ r ∈ opcodeTable, ∀ r' ∈ opcodeTable, opOf r.pattern = opOf r'.pattern → r = r' := by decide
  exact hinj r hr r' hr' ((rsvOf_opOf_of_accepts hr h).2.symm.trans (rsvOf_opOf_of_accepts hr' h').2)

/-! ### Operand bits that an opcode does not take -/

/-- A value of n bits has no bit in common with a mask whose low n bits are 0. -/
theorem setWidth_and_eq_zero {n : Nat} (x : BitVec n) {m : Half} (hm : m.setWidth n = 0) :
    x.setWidth 16 &&& m = 0 := by
  apply BitVec.eq_of_getLsbD_eq
  intro i hi
  by_cases hn : i < n
  · have hbit : m.getLsbD i = false := by simpa [hn] using congrArg (BitVec.getLsbD · i) hm
    simp [BitVec.getLsbD_and, -BitVec.getLsbD_eq_getElem, hbit]
  · simp [BitVec.getLsbD_of_ge x i (by omega)]

theorem extractLsb'_eq_zero_of_and {n k : Nat} {x m : Half} (h : x &&& m = 0)
    (hm : m.extractLsb' n k = BitVec.allOnes k) : x.extractLsb' n k = 0 := by
  simpa [BitVec.extractLsb'_and, hm] using congrArg (BitVec.extractLsb' n k) h

theorem toNat_lt_of_extractLsb'_eq_zero {n k : Nat} {x : Half} (hk : 16 ≤ n + k) (h : x.extractLsb' n k = 0) :
    x.toNat < 2 ^ n := by
  have hlt : x.toNat / 2 ^ n < 2 ^ k := by
    rw [Nat.div_lt_iff_lt_mul (Nat.two_pow_pos n), ← Nat.pow_add, Nat.add_comm k]
    exact x.isLt.trans_le (Nat.pow_le_pow_right (by decide) hk)
  have hz := congrArg BitVec.toNat h
  rw [BitVec.extractLsb'_toNat, Nat.shiftRight_eq_div_pow, Nat.mod_eq_of_lt hlt] at hz
  exact (Nat.div_eq_zero_iff.mp hz).resolve_left (Nat.two_pow_pos n).ne'

/-! ### Decodable, accepted by a row, legal -/

theorem encode_accepted (i : Instr) :
    ∃ r ∈ opcodeTable, r.accepts (encode i) = true ∧ r.mnemonic = i.mnemonic := by
  cases i <;>
    simp [opcodeTable, encode, accepts_commandWord, Instr.mnemonic, operandOf, rsvOf, nodstOf, opOf,
      setWidth_and_eq_zero]

theorem legal_commandWord_of_accepts {r : TableRow} {x : Half} {nd : Bool} {op : BitVec 4} (hr : r ∈ opcodeTable)
    (h : r.accepts (commandWord x nd op) = true) : legal (commandWord x nd op) = true := by
  obtain ⟨hx, -, hn, -⟩ := accepts_commandWord.mp h
  obtain rfl : op = opOf r.pattern := (opOf_commandWord x nd op).symm.trans (rsvOf_opOf_of_accepts hr h).2
  rw [Laws.Encoding.legal_commandWord]
  simp only [opcodeTable, List.mem_cons, List.not_mem_nil, or_false] at hr
  obtain rfl | rfl | rfl | rfl | rfl | rfl | rfl | rfl | rfl := hr <;>
    simp [operandOf, nodstOf] at hx hn <;> simp [RawCommand.wellFormed, opOf, hn]
  -- The operand checks of TS_INIT, TS_WRCFG, TS_TRIG, TS_RDRAW, MEM_INIT and MEM_CURSOR are left.
  exacts [extractLsb'_eq_zero_of_and hx rfl, extractLsb'_eq_zero_of_and hx rfl, BitVec.and_allOnes.symm.trans hx,
    BitVec.and_allOnes.symm.trans hx, extractLsb'_eq_zero_of_and hx rfl, BitVec.and_allOnes.symm.trans hx]

theorem legal_of_accepts {r : TableRow} {w : Word} (hr : r ∈ opcodeTable) (h : r.accepts w = true) :
    legal w = true := by
  have hw := commandWord_fields (rsvOf_opOf_of_accepts hr h).1
  exact hw ▸ legal_commandWord_of_accepts hr (hw.symm ▸ h)

theorem decode_of_legal {w : Word} (h : legal w = true) : ∃ i, decode w = .ok i := by
  unfold legal RawCommand.wellFormed rawOf at h
  split at h
  · cases h
  · next hr =>
    split at h <;> rename_i hop
    case h_1 | h_2 | h_3 =>
      obtain ⟨hn, hx⟩ := Bool.and_eq_true_iff.mp h
      have hlt := toNat_lt_of_extractLsb'_eq_zero (by decide) (eq_of_beq hx)
      simp_all [decode, withoutNodst, withOperandBits]
    case h_4 | h_5 | h_6 => simp_all [decode, withoutNodst, withOperandBits]
    case h_7 | h_8 | h_9 => simp_all [decode, withoutNodst]
    case h_10 => cases h

theorem accepted_of_decode {w : Word} {i : Instr} (h : decode w = .ok i) :
    ∃ r ∈ opcodeTable, r.accepts w = true ∧ r.mnemonic = i.mnemonic :=
  encode_eq_of_decode h ▸ encode_accepted i

theorem legal_encode (i : Instr) : legal (encode i) = true :=
  have ⟨_, hr, h, _⟩ := encode_accepted i
  legal_of_accepts hr h

theorem getLsbD_three_eq_opOf (w : Word) : w.getLsbD 3 = (opOf w).getLsbD 3 := by
  simp [opOf]

/-- `OP[3]` selects the unit (R57). -/
theorem encode_getLsbD_three (i : Instr) : (encode i).getLsbD 3 = false ↔ Machine.isSensorCommand i = true := by
  rw [getLsbD_three_eq_opOf]
  cases i <;> simp [encode, opOf_commandWord, Machine.isSensorCommand]

end Sys2Proof

namespace Sys2Proof.Machine

/-! ### The words of the assembler -/

theorem commandWord_toNat (x : Half) (nd : Bool) (op : BitVec 4) :
    (commandWord x nd op).toNat = x.toNat <<< 16 ||| (nd.toNat <<< 4 ||| op.toNat) := by
  simp only [commandWord, BitVec.toNat_append, BitVec.toNat_ofBool, Nat.shiftLeft_or_distrib, ← Nat.shiftLeft_add,
    Nat.or_assoc]
  simp

theorem word_of_not_inRange {l : AsmLine} (h : l.inRange = false) : l.word = none := by
  simp [AsmLine.word, h]

/-- R71's word column puts the operand at bit 16 and the flag at bit 4, as R56 does. -/
theorem word_eq_commandWord {l : AsmLine} {n : Nat} (hn : n ≤ 16) (x : BitVec n) (nd : Bool) (op : BitVec 4)
    (h : l.inRange = true) (hcode : l.expand.code = x.toNat <<< 16 ||| (nd.toNat <<< 4 ||| op.toNat)) :
    l.word = some (commandWord (x.setWidth 16) nd op) := by
  have hx : (x.setWidth 16).toNat = x.toNat := BitVec.toNat_setWidth_of_le hn
  rw [AsmLine.word, if_pos h, hcode, ← hx, ← commandWord_toNat, BitVec.ofNat_toNat, BitVec.setWidth_eq]

theorem word_tsInit (a : Addr7) : (AsmLine.tsInit a.toNat).word = some (encode (.tsInit a)) :=
  word_eq_commandWord (by decide) a false 0x0 (decide_eq_true (Nat.le_of_lt_succ a.isLt)) rfl

theorem word_memInit (a : Addr7) : (AsmLine.memInit a.toNat).word = some (encode (.memInit a)) :=
  word_eq_commandWord (by decide) a false 0x8 (decide_eq_true (Nat.le_of_lt_succ a.isLt)) rfl

theorem word_tsWrcfg (v : Byte) : (AsmLine.tsWrcfg v.toNat).word = some (encode (.tsWrcfg v)) :=
  word_eq_commandWord (by decide) v false 0x1 (decide_eq_true (Nat.le_of_lt_succ v.isLt)) rfl

theorem word_tsConv (x : Half) : (AsmLine.tsConv x.toNat).word = some (encode (.tsConv x)) :=
  word_eq_commandWord le_rfl x false 0x4 (decide_eq_true (Nat.le_of_lt_succ x.isLt)) rfl

theorem word_memWrseq (d : Half) : (AsmLine.memWrseq d.toNat).word = some (encode (.memWrseq d)) :=
  word_eq_commandWord le_rfl d false 0x9 (decide_eq_true (Nat.le_of_lt_succ d.isLt)) rfl

theorem word_memRdat (x : Half) (nd : Bool) :
    (AsmLine.memRdat x.toNat nd).word = some (encode (.memRdat x nd)) :=
  word_eq_commandWord le_rfl x nd 0xA (decide_eq_true (Nat.le_of_lt_succ x.isLt)) (by cases nd <;> rfl)

theorem word_tsTrig : AsmLine.tsTrig.word = some (encode .tsTrig) := by decide

theorem word_memCursor : AsmLine.memCursor.word = some (encode .memCursor) := by decide

theorem word_tsRdraw (nd : Bool) : (AsmLine.tsRdraw nd).word = some (encode (.tsRdraw nd)) := by
  cases nd <;> decide

theorem word_tsShutdown (r : ResCode) :
    (AsmLine.tsShutdown r.toNat).word = some (encode (.tsWrcfg ((r.setWidth 8 <<< 5) ||| 0x01))) := by
  rw [← word_tsWrcfg]
  revert r
  decide

theorem word_tsContinuous (r : ResCode) :
    (AsmLine.tsContinuous r.toNat).word = some (encode (.tsWrcfg (r.setWidth 8 <<< 5))) := by
  rw [← word_tsWrcfg]
  revert r
  decide

/-- A number in range is the value of an operand, so its line has a word if every operand's line has one. -/
theorem exists_word_of_forall {line : Nat → AsmLine} {w : Nat} {command : BitVec w → Instr}
    (hword : ∀ x, (line x.toNat).word = some (encode (command x))) {n : Nat} (h : decide (n ≤ 2 ^ w - 1) = true) :
    ∃ i, (line n).word = some (encode i) :=
  ⟨_, hword (.ofNatLT n (Nat.lt_of_le_sub_one (Nat.two_pow_pos w) (of_decide_eq_true h)))⟩

theorem exists_word_eq_encode {l : AsmLine} (h : l.inRange = true) : ∃ i, l.word = some (encode i) := by
  cases l with
  | tsInit a => exact exists_word_of_forall word_tsInit h
  | tsWrcfg v => exact exists_word_of_forall word_tsWrcfg h
  | tsTrig => exact ⟨.tsTrig, word_tsTrig⟩
  | tsRdraw nd => exact ⟨_, word_tsRdraw nd⟩
  | tsConv x => exact exists_word_of_forall word_tsConv h
  | memInit a => exact exists_word_of_forall word_memInit h
  | memWrseq d => exact exists_word_of_forall word_memWrseq h
  | memRdat x nd => exact exists_word_of_forall (line := (.memRdat · nd)) (word_memRdat · nd) h
  | memCursor => exact ⟨.memCursor, word_memCursor⟩
  | tsShutdown r => exact exists_word_of_forall word_tsShutdown h
  | tsContinuous r => exact exists_word_of_forall word_tsContinuous h

/-! ### Bytes and halves -/

theorem split_eq_ofNat (v : Half) : split v = [BitVec.ofNat 8 (v.toNat / 256), BitVec.ofNat 8 (v.toNat % 256)] := by
  simp [split, ← BitVec.toNat_inj, BitVec.extractLsb'_toNat, Nat.shiftRight_eq_div_pow]

theorem merge_toNat (b0 b1 : Byte) : (merge b0 b1).toNat = b0.toNat * 256 + b1.toNat := by
  rw [merge, BitVec.toNat_append, ← Nat.shiftLeft_add_eq_or_of_lt b1.isLt, Nat.shiftLeft_eq]

theorem split_merge (b0 b1 : Byte) : split (merge b0 b1) = [b0, b1] := by
  rw [split, merge, BitVec.extractLsb'_append_eq_left, BitVec.extractLsb'_append_eq_of_add_le le_rfl,
    BitVec.extractLsb'_eq_self]

/-! ### The configuration byte -/

theorem resOf_toNat (v : Byte) : (resOf v).toNat = v.toNat / 32 % 4 := by
  rw [resOf, BitVec.extractLsb'_toNat, Nat.shiftRight_eq_div_pow]

theorem getLsbD_withOneShot (v : Byte) (k : Nat) : (withOneShot v).getLsbD k = (v.getLsbD k || k == 7) := by
  rw [withOneShot, BitVec.getLsbD_or, show (0x80 : Byte) = BitVec.twoPow 8 7 from rfl, BitVec.getLsbD_twoPow]
  simp [eq_comm (a := 7), beq_eq_decide]

theorem resOf_withOneShot (v : Byte) : resOf (withOneShot v) = resOf v := by
  rw [resOf, withOneShot, BitVec.extractLsb'_or]
  exact BitVec.or_zero

/-! ### The fields of a response word -/

theorem respData_responseWord (d : Half) (r : ResCode) (dv : Bool) (e : Status) :
    respData (responseWord d r dv e) = d := by
  rw [respData, responseWord]
  iterate 4 rw [BitVec.extractLsb'_append_eq_of_le (by decide)]
  exact BitVec.extractLsb'_eq_self

theorem respRes_responseWord (d : Half) (r : ResCode) (dv : Bool) (e : Status) :
    respRes (responseWord d r dv e) = r := by
  rw [respRes, responseWord]
  iterate 2 rw [BitVec.extractLsb'_append_eq_of_le (by decide)]
  rw [BitVec.extractLsb'_append_eq_of_add_le (by decide)]
  exact BitVec.extractLsb'_eq_self

/-! ### The obligations -/

/-- Settles O2: a decoded word is its command's word, and the encoder's words decode. -/
theorem decodeInvertsEncode : Obligations.DecodeInvertsEncode := fun _ i =>
  ⟨fun h => (encode_eq_of_decode h).symm, fun h => h ▸ decode_encode i⟩

/-- Settles O1: a decoded word is in its command's row, a word in a row is legal, and a legal word decodes. -/
theorem legalWordsAreTheTableWords : Obligations.LegalWordsAreTheTableWords := by
  intro w
  have hrow : (∃ i, decode w = .ok i) → ∃ r ∈ opcodeTable, r.accepts w = true := fun ⟨i, hi⟩ =>
    have ⟨r, hr, ha, _⟩ := accepted_of_decode hi
    ⟨r, hr, ha⟩
  have hlegal : (∃ r ∈ opcodeTable, r.accepts w = true) → legal w = true := fun ⟨_, hr, ha⟩ =>
    legal_of_accepts hr ha
  exact ⟨⟨hlegal ∘ hrow, decode_of_legal⟩, ⟨hrow ∘ decode_of_legal, hlegal⟩,
    fun _ hr _ hr' ha ha' => row_eq_of_accepts hr hr' ha ha'⟩

/-- Settles O3: the word is the command's own, whose opcode has bit 3 clear exactly for the TSU. -/
theorem decodedCommandIsItsRows : Obligations.DecodedCommandIsItsRows := fun _ _ h =>
  ⟨accepted_of_decode h, encode_eq_of_decode h ▸ encode_getLsbD_three _⟩

/-- Settles O5: each form's word is the encoder's, and every line in range is such a form or a pseudo-instruction. -/
theorem assemblerEmitsOnlyLegalWords : Obligations.AssemblerEmitsOnlyLegalWords := by
  refine fun l => ⟨word_of_not_inRange, fun h => ?_, fun a => ⟨word_tsInit a, word_memInit a⟩, word_tsWrcfg,
    fun x => ⟨word_tsConv x, word_memWrseq x, word_memRdat x⟩, word_tsRdraw, word_tsTrig, word_memCursor⟩
  obtain ⟨i, hi⟩ := exists_word_eq_encode h
  exact ⟨encode i, hi, legal_encode i⟩

/-- Settles O4: each word is the encoding of its command. -/
theorem writtenOutWordsDecode : Obligations.WrittenOutWordsDecode := by
  refine ⟨?_, ?_, ?_, ?_, ?_, ?_, ?_, ?_, ?_⟩ <;> exact (decodeInvertsEncode _ _).mpr (by decide)

/-- Settles O6: the pseudo-instructions' words, and a code above 3 is out of range. -/
theorem pseudoInstructionsExpand : Obligations.PseudoInstructionsExpand :=
  ⟨fun r => ⟨word_tsShutdown r, word_tsContinuous r⟩, fun _ hn =>
    ⟨word_of_not_inRange (decide_eq_false hn.not_ge), word_of_not_inRange (decide_eq_false hn.not_ge)⟩⟩

/-- Settles O8: the values of the bytes, and merging as concatenation. -/
theorem splitAndMergeAreBigEndian : Obligations.SplitAndMergeAreBigEndian :=
  ⟨split_eq_ofNat, merge_toNat, split_merge⟩

/-- Settles O9: the value of bits 6..5, and the write-back byte bit by bit. -/
theorem configurationByteFields : Obligations.ConfigurationByteFields :=
  ⟨resOf_toNat, by decide, getLsbD_withOneShot, resOf_withOneShot⟩

/-- Settles O24, field by field. -/
theorem responseWordFields : Obligations.ResponseWordFields :=
  ⟨fun d r dv e => ⟨respData_responseWord d r dv e, respRsv_responseWord d r dv e, respRes_responseWord d r dv e,
    respDv_responseWord d r dv e, respStatus_responseWord d r dv e⟩, rfl, rfl, rfl, rfl, rfl, rfl⟩

/-- Settles O34: each phase's move answers a next state. -/
theorem everyStepAnswersANextState : Obligations.EveryStepAnswersANextState := fun s => ⟨_, step_eq_next_chipStep s⟩

end Sys2Proof.Machine
end

section
/-! PROOFS, family 40_bus_framer: the address bytes of a device address (O7), and a first request that meets no answer
stays outstanding (O32). -/

namespace Sys2Proof.Machine

/-! ### Address bytes -/

/-- An address byte is the shifted address with the direction bit put into the place it left free (R74, R75). -/
theorem append_bit_eq_shiftLeft_or (a7 : Addr7) (b : BitVec 1) :
    (a7 ++ b : Byte) = a7.setWidth 8 <<< 1 ||| b.setWidth 8 := by
  rw [BitVec.append_def, BitVec.shiftLeftZeroExtend_eq, BitVec.setWidth'_eq]

theorem append_ofBool_toNat (a7 : Addr7) (b : Bool) : (a7 ++ BitVec.ofBool b).toNat = 2 * a7.toNat + b.toNat := by
  rw [BitVec.append_ofBool, BitVec.toNat_concat, Nat.mul_comm]

theorem writeAddress_eq_shiftLeft (a7 : Addr7) : writeAddress a7 = a7.setWidth 8 <<< 1 :=
  (append_bit_eq_shiftLeft_or a7 0).trans BitVec.or_zero

theorem writeAddress_toNat (a7 : Addr7) : (writeAddress a7).toNat = 2 * a7.toNat := append_ofBool_toNat a7 false

theorem readAddress_eq_shiftLeft_or (a7 : Addr7) : readAddress a7 = a7.setWidth 8 <<< 1 ||| 1 :=
  append_bit_eq_shiftLeft_or a7 1

theorem readAddress_toNat (a7 : Addr7) : (readAddress a7).toNat = 2 * a7.toNat + 1 := append_ofBool_toNat a7 true

theorem readAddress_eq_writeAddress_or (a7 : Addr7) : readAddress a7 = writeAddress a7 ||| 1 := by
  rw [writeAddress_eq_shiftLeft, readAddress_eq_shiftLeft_or]

theorem readAddress_eq_writeAddress_add (a7 : Addr7) : readAddress a7 = writeAddress a7 + 1 := by
  have hw := writeAddress_toNat a7
  have hr := readAddress_toNat a7
  bv_omega

/-! ### A first request without an answer -/

section Unanswered
variable {s : State} (ha : s.answers = [])
include ha

theorem requireTs_awaitAnswer_none (hv : s.tsValid = true) (cur : Word) (p : Position) (k : Answer → State → State) :
    requireTs (awaitAnswer cur p k) s = s.setSequencer (.bus cur p) :=
  (requireTs_valid _ hv).trans (awaitAnswer_none cur p k ha)

theorem requireMem_awaitAnswer_none (hv : s.memValid = true) (cur : Word) (p : Position)
    (k : Answer → State → State) : requireMem (awaitAnswer cur p k) s = s.setSequencer (.bus cur p) :=
  (requireMem_valid _ hv).trans (awaitAnswer_none cur p k ha)

/-- The argument check of R103, passed: the pointer write is the request that waits. -/
theorem exec_memRdat_unanswered (hv : s.memValid = true) {a : Half} (h : a.toNat ≤ 0x7FFF) :
    exec (.memRdat a false) s = .next (s.setSequencer (.bus (encode (.memRdat a false)) (.memRdatPtr a))) := by
  have hcheck : ¬ (maxAddr.toNat < a.toNat || false) = true := by simpa [maxAddr] using h
  simp only [exec, execMemRdat]
  rw [requireMem_valid _ hv, if_neg hcheck, awaitAnswer_none _ _ _ ha]

end Unanswered

/-! ### The obligations -/

/-- Settles O7: the address byte is the address followed by the direction bit. -/
theorem addressBytesCarryAddressAndDirection : Obligations.AddressBytesCarryAddressAndDirection := fun a =>
  ⟨writeAddress_eq_shiftLeft a, writeAddress_toNat a, readAddress_eq_shiftLeft_or a, readAddress_toNat a,
    readAddress_eq_writeAddress_or a, readAddress_eq_writeAddress_add a⟩

/-- Settles O32: behind its checks each command awaits the answer to its first request, and there is none. -/
theorem unansweredRequestStaysOutstanding : Obligations.UnansweredRequestStaysOutstanding := by
  intro s ha
  refine ⟨fun a => ?init, fun hv => ⟨fun v => ?wrcfg, ?trig, ?rdraw⟩, fun hv => ⟨fun d => ?wrseq, fun a h => ?rdat⟩⟩
  case init => exact congrArg _ (awaitAnswer_none _ _ _ (s := s.setTsAddr a) ha)
  case wrcfg | trig | rdraw => exact congrArg _ (requireTs_awaitAnswer_none ha hv _ _ _)
  case wrseq => exact congrArg _ (requireMem_awaitAnswer_none ha hv _ _ _)
  case rdat => exact exec_memRdat_unanswered ha hv h

end Sys2Proof.Machine
end

section
/-! PROOFS, family 41_temperature_sensor: the resolution table and the decoder as a floor division (O10 to O13), the
five commands of the TSU by the answers they meet (O15 to O19), and what they leave unchanged (O44). -/

namespace Sys2Proof

/-! ### The value of a command word -/

theorem commandWord_toNat_add (x : Half) (nd : Bool) (op : BitVec 4) :
    (commandWord x nd op).toNat = x.toNat * 0x10000 + nd.toNat * 0x10 + op.toNat := by
  have hlow : nd.toNat <<< 4 + op.toNat < 2 ^ 16 := by have := nd.toNat_lt; have := op.isLt; omega
  rw [Machine.commandWord_toNat, ← Nat.shiftLeft_add_eq_or_of_lt op.isLt, ← Nat.shiftLeft_add_eq_or_of_lt hlow,
    Nat.shiftLeft_eq, Nat.shiftLeft_eq, Nat.add_assoc]

/-- An operand of at most 16 bits keeps its value in the word. -/
theorem commandWord_setWidth_toNat {n : Nat} (hn : n ≤ 16) (x : BitVec n) (op : BitVec 4) :
    (commandWord (x.setWidth 16) false op).toNat = x.toNat * 0x10000 + op.toNat := by
  rw [commandWord_toNat_add, BitVec.toNat_setWidth_of_le hn, Bool.toNat_false, Nat.zero_mul, Nat.add_zero]

theorem encode_injective : Function.Injective encode := fun i j h =>
  Except.ok.inj ((decode_encode i).symm.trans ((congrArg decode h).trans (decode_encode j)))

end Sys2Proof

namespace Sys2Proof.Machine

/-! ### The resolution table -/

theorem shiftAmount_eq_sub (r : ResCode) : shiftAmount r = 7 - r.toNat := by
  revert r
  decide

theorem shiftAmount_pos (r : ResCode) : 0 < shiftAmount r := by
  revert r
  decide

theorem shiftAmount_lt (r : ResCode) : shiftAmount r < 16 := by
  rw [shiftAmount_eq_sub]
  omega

/-- The span of counts on one side of 0, times the shift, is that of the 16-bit samples. -/
theorem countSpan_mul_shift (r : ResCode) : 256 * 2 ^ r.toNat * 2 ^ shiftAmount r = (2 ^ 15 : Int) := by
  revert r
  decide

theorem signMask_eq_twoPow (r : ResCode) : signMask r = BitVec.twoPow 16 (16 - shiftAmount r) := by
  revert r
  decide

theorem signMask_eq_shiftLeft (r : ResCode) : signMask r = 0x0200#16 <<< r.toNat := by
  revert r
  decide

theorem signMask_ne_zero (r : ResCode) : signMask r ≠ 0 := by
  revert r
  decide

theorem extMask_eq_shiftLeft (r : ResCode) : extMask r = BitVec.allOnes 16 <<< (16 - shiftAmount r) := by
  revert r
  decide

theorem weight_eq_pow (r : ResCode) : weight r = (1 / 2) ^ (r.toNat + 1) := by
  have hr : r.toNat < 4 := r.isLt
  rw [weight]
  interval_cases r.toNat <;> norm_num

theorem weight_pos (r : ResCode) : 0 < weight r := by
  rw [weight_eq_pow]
  positivity

/-- The span of counts is 128 °C on either side of 0. -/
theorem countSpan_mul_weight (r : ResCode) : (256 * 2 ^ r.toNat : Rat) * weight r = 128 := by
  have h : (2 : Rat) ^ r.toNat * (1 / 2) ^ r.toNat = 1 := by rw [← mul_pow]; norm_num
  rw [weight_eq_pow, pow_succ]
  linear_combination 128 * h

/-! ### The arithmetic shift and the sign stage -/

theorem asr16_toInt (v : Half) (k : Nat) : (asr16 v k).toInt = v.toInt / 2 ^ k := by
  rw [asr16, BitVec.toInt_sshiftRight, Int.shiftRight_eq_div_pow]
  norm_cast

/-- Above the bits that the shift keeps stand copies of the sign bit. -/
theorem getLsbD_asr16_of_le (v : Half) {k i : Nat} (hi : i < 16) (hk : 16 ≤ k + i) :
    (asr16 v k).getLsbD i = v.msb := by
  rw [asr16, BitVec.getLsbD_sshiftRight]
  simp [hi, hk.not_gt]

theorem asr16_eq_signExtend (v : Half) {k : Nat} (hk : k < 16) :
    asr16 v k = (v.extractLsb' k (16 - k)).signExtend 16 := by
  apply BitVec.eq_of_getLsbD_eq
  intro i hi
  rw [asr16, BitVec.getLsbD_sshiftRight, BitVec.getLsbD_signExtend, BitVec.getLsbD_extractLsb',
    BitVec.msb_eq_getLsbD_last (x := v.extractLsb' _ _), BitVec.getLsbD_extractLsb', BitVec.msb_eq_getLsbD_last]
  by_cases h : k + i < 16
  · simp [hi, h, show i < 16 - k by omega]
  · simp [hi, h, show ¬ i < 16 - k by omega, show 16 - k - 1 < 16 - k by omega, show k + (16 - k - 1) = 15 by omega]

/-- The sign mask selects a copy of the sample's sign bit (R88). -/
theorem asr16_and_signMask_eq_zero_iff (raw : Half) (r : ResCode) :
    asr16 raw (shiftAmount r) &&& signMask r = 0 ↔ raw.msb = false := by
  have hpos := shiftAmount_pos r
  have hmask := signMask_ne_zero r
  rw [signMask_eq_twoPow] at hmask ⊢
  rw [BitVec.and_twoPow, getLsbD_asr16_of_le raw (by omega) (by omega)]
  cases raw.msb
  · simp
  · simpa using hmask

/-- The extension mask covers nothing but copies of the sign bit. -/
theorem asr16_or_extMask {raw : Half} (h : raw.msb = true) (r : ResCode) :
    asr16 raw (shiftAmount r) ||| extMask r = asr16 raw (shiftAmount r) := by
  apply BitVec.eq_of_getLsbD_eq
  intro i hi
  rw [BitVec.getLsbD_or, extMask_eq_shiftLeft, BitVec.getLsbD_shiftLeft]
  by_cases hlow : i < 16 - shiftAmount r
  · simp [hlow]
  · rw [getLsbD_asr16_of_le raw hi (by omega), h, Bool.true_or]

theorem decodeSample_eq_asr16 (raw : Half) (r : ResCode) : decodeSample raw r = asr16 raw (shiftAmount r) := by
  rw [decodeSample]
  split
  · next h =>
    rw [Ne, asr16_and_signMask_eq_zero_iff, Bool.not_eq_false] at h
    exact asr16_or_extMask h r
  · rfl

/-! ### The decoded count and its Celsius value -/

section Decoder
variable (raw : Half) (r : ResCode)

theorem decodeSample_toInt : (decodeSample raw r).toInt = raw.toInt / 2 ^ shiftAmount r := by
  rw [decodeSample_eq_asr16, asr16_toInt]

theorem decodeSample_eq_signExtend :
    decodeSample raw r = (raw.extractLsb' (shiftAmount r) (16 - shiftAmount r)).signExtend 16 := by
  rw [decodeSample_eq_asr16, asr16_eq_signExtend raw (shiftAmount_lt r)]

theorem decodeSample_msb : (decodeSample raw r).msb = raw.msb := by
  rw [decodeSample_eq_asr16, asr16, BitVec.msb_sshiftRight]

theorem countSpan_neg_le_decodeSample : -(256 * 2 ^ r.toNat) ≤ (decodeSample raw r).toInt := by
  rw [decodeSample_toInt, Int.le_ediv_iff_mul_le (by positivity), neg_mul, countSpan_mul_shift]
  exact raw.le_toInt

theorem decodeSample_le_countSpan : (decodeSample raw r).toInt ≤ 256 * 2 ^ r.toNat - 1 := by
  rw [Int.le_sub_one_iff, decodeSample_toInt, Int.ediv_lt_iff_lt_mul (by positivity), countSpan_mul_shift]
  exact raw.toInt_lt

theorem decodeSample_min : (decodeSample 0x8000 r).toInt = -(256 * 2 ^ r.toNat) := by
  revert r
  decide

theorem decodeSample_max : (decodeSample 0x7FFF r).toInt = 256 * 2 ^ r.toNat - 1 := by
  revert r
  decide

/-- The decoder reads no bit below the shift (R91). -/
theorem decodeSample_congr {raw' : Half} (h : raw.toNat / 2 ^ shiftAmount r = raw'.toNat / 2 ^ shiftAmount r) :
    decodeSample raw r = decodeSample raw' r := by
  have hbits : raw.extractLsb' (shiftAmount r) (16 - shiftAmount r) = raw'.extractLsb' (shiftAmount r) _ := by
    apply BitVec.eq_of_toNat_eq
    simp only [BitVec.extractLsb'_toNat, Nat.shiftRight_eq_div_pow, h]
  rw [decodeSample_eq_signExtend, decodeSample_eq_signExtend, hbits]

theorem celsius_eq (v : Half) : celsius v r = v.toInt * (1 / 2) ^ (r.toNat + 1) := by
  rw [celsius, weight_eq_pow]

theorem celsius_min : celsius (decodeSample 0x8000 r) r = -128 := by
  rw [celsius, decodeSample_min]
  push_cast
  linear_combination -countSpan_mul_weight r

theorem celsius_max : celsius (decodeSample 0x7FFF r) r = 128 - weight r := by
  rw [celsius, decodeSample_max]
  push_cast
  linear_combination countSpan_mul_weight r

theorem celsius_mono {v v' : Half} (h : v.toInt ≤ v'.toInt) : celsius v r ≤ celsius v' r :=
  mul_le_mul_of_nonneg_right (Int.cast_le.mpr h) (weight_pos r).le

theorem celsius_decodeSample_bounds :
    -128 ≤ celsius (decodeSample raw r) r ∧ celsius (decodeSample raw r) r ≤ 128 - weight r := by
  rw [← celsius_min r, ← celsius_max r]
  refine ⟨celsius_mono r ?_, celsius_mono r ?_⟩
  · rw [decodeSample_min]
    exact countSpan_neg_le_decodeSample raw r
  · rw [decodeSample_max]
    exact decodeSample_le_countSpan raw r

end Decoder

/-! ### A command's exchanges with the transport -/

/-- The state after exchanges with the transport, with the answers left. -/
def State.exchanged (s : State) (cur : Word) (es : List Event) (rest : List Answer) : State :=
  { s with answers := rest, trace := s.trace ++ es, sequencer := .exec cur }

/-- The exchange of the request at a position, answered with a. -/
def Position.exchange (p : Position) (s : State) (a : Answer) : Event := .transfer (p.request s) ((p.request s).reply a)

theorem request_exchanged (p : Position) (s : State) (cur : Word) (es : List Event) (rest : List Answer) :
    p.request (s.exchanged cur es rest) = p.request s := by
  cases p <;> rfl

section Exchanges
variable {s : State} {a : Answer} {rest : List Answer} (cur : Word) (p : Position)

theorem resume_one (h : s.answers = a :: rest) :
    s.resume cur p = p.rest cur a (s.exchanged cur [p.exchange s a] rest) :=
  resume_some cur p h

theorem exchanged_resume (es : List Event) :
    (s.exchanged cur es (a :: rest)).resume cur p =
      p.rest cur a (s.exchanged cur (es ++ [p.exchange s a]) rest) := by
  rw [resume_some cur p rfl, request_exchanged]
  simp [State.answered, State.exchanged, Position.exchange]

/-- A command whose first two frames are answered, the first of them OK, goes on from its second answer. -/
theorem resume_two {q : Position} {x y : Byte} (h : s.answers = .ok x y :: a :: rest)
    (hgo : ∀ t, p.rest cur (.ok x y) t = t.resume cur q) :
    s.resume cur p = q.rest cur a (s.exchanged cur [p.exchange s (.ok x y), q.exchange s a] rest) := by
  rw [resume_one cur p h, hgo, exchanged_resume]
  rfl

end Exchanges

/-! ### The TS commands behind their checks, by their answers -/

theorem tsTrigCheck_notReady {b : Byte} (h : b.getLsbD 0 = false) (cur : Word) (s : State) :
    tsTrigCheck cur (some b) s = s.deliver 0x00000003#32 :=
  if_neg (Bool.not_eq_true _ ▸ h)

theorem tsTrigCheck_ready {b : Byte} (h : b.getLsbD 0 = true) (cur : Word) (s : State) :
    tsTrigCheck cur (some b) s = s.resume cur (.tsTrigWr (withOneShot b)) :=
  if_pos h

/-- The code cached is that of the byte read, since setting OS keeps it. -/
theorem refreshCache_withOneShot (b : Byte) (s : State) :
    refreshCache (withOneShot b) s = s.setTsRes (if s.trigUpdatesCache then resOf b else s.tsRes) := by
  rw [refreshCache, resOf_withOneShot]
  split <;> rfl

section Valid
variable {s : State} (hv : s.tsValid = true)
include hv

theorem exec_tsWrcfg_valid (v : Byte) :
    exec (.tsWrcfg v) s = .next (s.resume (encode (.tsWrcfg v)) (.tsWrcfgWr v)) :=
  congrArg _ (requireTs_valid _ hv)

theorem exec_tsTrig_valid : exec .tsTrig s = .next (s.resume (encode .tsTrig) .tsTrigPtr) :=
  congrArg _ (requireTs_valid _ hv)

theorem exec_tsRdraw_valid : exec (.tsRdraw false) s = .next (s.resume (encode (.tsRdraw false)) .tsRdrawPtr) :=
  congrArg _ (requireTs_valid _ hv)

variable {x y : Byte} {a : Answer} {rest : List Answer}

/-- TS_RDRAW ends as the answer to its second frame says. -/
theorem exec_tsRdraw_read (h : s.answers = .ok x y :: a :: rest) :
    exec (.tsRdraw false) s = .next (finishRead a (s.exchanged (encode (.tsRdraw false))
      [Position.tsRdrawPtr.exchange s (.ok x y), Position.tsRdrawRd.exchange s a] rest)) := by
  rw [exec_tsRdraw_valid hv, resume_two (q := .tsRdrawRd) _ _ h fun _ => rfl]
  rfl

/-- TS_TRIG goes on from the answer to its second frame. -/
theorem exec_tsTrig_read (h : s.answers = .ok x y :: a :: rest) :
    exec .tsTrig s = .next (afterCfgRd (tsTrigCheck (encode .tsTrig)) a (s.exchanged (encode .tsTrig)
      [Position.tsTrigPtr.exchange s (.ok x y), Position.tsTrigRd.exchange s a] rest)) := by
  rw [exec_tsTrig_valid hv, resume_two (q := .tsTrigRd) _ _ h fun _ => rfl]
  rfl

/-- TS_TRIG ends, or begins its wait, as the answer to its write-back says. -/
theorem exec_tsTrig_writeBack {cfg z : Byte} (hsd : cfg.getLsbD 0 = true)
    (h : s.answers = .ok x y :: .ok cfg z :: a :: rest) :
    exec .tsTrig s = .next (tsTrigFinish (encode .tsTrig) (withOneShot cfg) a (s.exchanged (encode .tsTrig)
      [Position.tsTrigPtr.exchange s (.ok x y), Position.tsTrigRd.exchange s (.ok cfg z),
        (Position.tsTrigWr (withOneShot cfg)).exchange s a] rest)) := by
  rw [exec_tsTrig_read hv h, afterCfgRd_ok, tsTrigCheck_ready hsd, exchanged_resume]
  rfl

end Valid

/-! ### A command does not look at the sequencer it starts from -/

/-- What k makes of a state does not depend on its sequencer. -/
def IgnoresSequencer (k : State → State) : Prop := ∀ (s : State) (q : Sequencer), k (s.setSequencer q) = k s

theorem resume_ignoresSequencer (cur : Word) (p : Position) : IgnoresSequencer (State.resume · cur p) :=
  fun s q => resume_setSequencer s q cur p

theorem ite_ignoresSequencer (b : Prop) [Decidable b] {k k' : State → State} (hk : IgnoresSequencer k)
    (hk' : IgnoresSequencer k') : IgnoresSequencer fun s => if b then k s else k' s := by
  split
  · exact hk
  · exact hk'

theorem requireTs_ignoresSequencer {k : State → State} (hk : IgnoresSequencer k) : IgnoresSequencer (requireTs k) :=
  fun s q => congrArg (ite (s.tsValid = true) · (s.raise .uninitialised)) (hk s q)

theorem requireMem_ignoresSequencer {k : State → State} (hk : IgnoresSequencer k) : IgnoresSequencer (requireMem k) :=
  fun s q => congrArg (ite (s.memValid = true) · (s.raise .uninitialised)) (hk s q)

theorem execState_ignoresSequencer (i : Instr) : IgnoresSequencer (execState i) := by
  have hraise : ∀ e, IgnoresSequencer (State.raise · e) := fun _ _ _ => rfl
  cases i with
  | tsInit addr => exact fun s => resume_ignoresSequencer _ .tsInitPtr (s.setTsAddr addr)
  | tsWrcfg cfg => exact requireTs_ignoresSequencer (resume_ignoresSequencer _ (.tsWrcfgWr cfg))
  | tsTrig => exact requireTs_ignoresSequencer (resume_ignoresSequencer _ .tsTrigPtr)
  | tsRdraw nodst =>
    exact requireTs_ignoresSequencer (ite_ignoresSequencer _ (hraise _) (resume_ignoresSequencer _ .tsRdrawPtr))
  | tsConv raw => exact requireTs_ignoresSequencer fun _ _ => rfl
  | memInit addr => exact fun _ _ => rfl
  | memWrseq data => exact requireMem_ignoresSequencer (resume_ignoresSequencer _ (.memWrseqWr data))
  | memRdat address nodst =>
    exact requireMem_ignoresSequencer
      (ite_ignoresSequencer _ (hraise _) (resume_ignoresSequencer _ (.memRdatPtr address)))
  | memCursor => exact requireMem_ignoresSequencer fun _ _ => rfl

/-- A command's writes are its own, in every state. -/
theorem execState_writesAllowed (i : Instr) (s : State) :
    WritesAllowed (some (encode i)) s.trigUpdatesCache s.registers (execState i s).registers := by
  rw [← execState_ignoresSequencer i s (.exec (encode i))]
  exact (execState_moves (s := s.setSequencer (.exec (encode i))) rfl).writesAllowed trivial

/-! ### What the commands leave unchanged -/

/-- The commands that write no register (R96, R97, R103, R104). -/
def writesNoRegister (i : Instr) : Bool :=
  match i with
  | .tsRdraw _ | .tsConv _ | .memRdat _ _ | .memCursor => true
  | .tsInit _ | .tsWrcfg _ | .tsTrig | .memInit _ | .memWrseq _ => false

section Frame
variable {i : Instr}

/-- What holds of a command holds of every command with its word. -/
theorem of_encode_eq {P : Instr → Prop} {j : Instr} (hi : P i) (h : some (encode i) = some (encode j)) : P j :=
  encode_injective (Option.some.inj h) ▸ hi

theorem execState_registers (hi : writesNoRegister i = true) (s : State) :
    (execState i s).registers = s.registers := by
  obtain ⟨htv, hmv, hta, hma, hres, hcursor⟩ := execState_writesAllowed i s
  have hno {j : Instr} := of_encode_eq (P := (writesNoRegister · = true)) (j := j) hi
  simp only [State.registers, Registers.mk.injEq]
  refine ⟨?_, ?_, ?_, ?_, ?_, ?_⟩ <;> by_contra h
  · obtain ⟨-, a, ha⟩ := htv h
    cases hno ha
  · cases hno (hta h)
  · obtain ⟨a, ha⟩ | ⟨v, hv, -⟩ | ⟨ht, -⟩ := hres h
    · cases hno ha
    · cases hno hv
    · cases hno ht
  · obtain ⟨-, a, ha⟩ := hmv h
    cases hno ha
  · cases hno (hma h)
  · obtain ⟨a, ha, -⟩ | ⟨d, hd, -⟩ := hcursor h
    · cases hno ha
    · cases hno hd

theorem sensorCommand_memUnit (hi : isSensorCommand i = true) (s : State) :
    (execState i s).memValid = s.memValid ∧ (execState i s).memAddr = s.memAddr ∧
    (execState i s).cursor = s.cursor := by
  obtain ⟨-, hmv, -, hma, -, hcursor⟩ := execState_writesAllowed i s
  have hno {j : Instr} := of_encode_eq (P := (isSensorCommand · = true)) (j := j) hi
  refine ⟨?_, ?_, ?_⟩ <;> by_contra h
  · obtain ⟨-, a, ha⟩ := hmv h
    cases hno ha
  · cases hno (hma h)
  · obtain ⟨a, ha, -⟩ | ⟨d, hd, -⟩ := hcursor h
    · cases hno ha
    · cases hno hd

theorem execState_tsAddr_tsValid (hi : ∀ a, i ≠ .tsInit a) (s : State) :
    (execState i s).tsAddr = s.tsAddr ∧ (execState i s).tsValid = s.tsValid := by
  obtain ⟨htv, -, hta, -, -, -⟩ := execState_writesAllowed i s
  have hno {j : Instr} := of_encode_eq (P := (∀ a, · ≠ .tsInit a)) (j := j) hi
  refine ⟨?_, ?_⟩ <;> by_contra h
  · exact hno (hta h) _ rfl
  · obtain ⟨-, a, ha⟩ := htv h
    exact hno ha a rfl

end Frame

/-- TS_CONV makes no request (R97). -/
theorem execState_tsConv_record (raw : Half) (s : State) :
    (execState (.tsConv raw) s).trace = s.trace ∧ (execState (.tsConv raw) s).answers = s.answers :=
  requireTs_ind (P := fun t => t.trace = s.trace ∧ t.answers = s.answers) (fun _ => ⟨rfl, rfl⟩) fun _ => ⟨rfl, rfl⟩

/-! ### The obligations -/

/-- Settles O11: the sign stage sets bits that are set already, and the arithmetic shift is a floor division. -/
theorem decoderIsAFloorDivision : Obligations.DecoderIsAFloorDivision := fun raw r =>
  ⟨decodeSample_eq_asr16 raw r, decodeSample_toInt raw r, decodeSample_eq_signExtend raw r⟩

/-- Settles O12: the bounds of the floor division, and the Celsius value is monotone in the count. -/
theorem decodedRangeByResolution : Obligations.DecodedRangeByResolution := fun r =>
  ⟨fun raw => ⟨countSpan_neg_le_decodeSample raw r, decodeSample_le_countSpan raw r⟩, decodeSample_min r,
    decodeSample_max r, fun raw => celsius_decodeSample_bounds raw r, celsius_min r, celsius_max r,
    fun raw _ h => decodeSample_congr raw r h, fun raw => by rw [celsius_eq, decodeSample_toInt], by decide⟩

/-- Settles O13: the masked bit is the sample's sign bit, which the shift keeps. -/
theorem signBitDecidesTheSign : Obligations.SignBitDecidesTheSign := by
  intro raw r
  rw [Ne, asr16_and_signMask_eq_zero_iff, Bool.not_eq_false]
  refine ⟨fun h => ⟨decodeSample_eq_asr16 raw r, BitVec.toInt_nonneg_of_msb_false ?_⟩, fun h => ?_⟩
  · rw [decodeSample_msb, h]
  · have hmsb : (decodeSample raw r).msb = true := (decodeSample_msb raw r).trans h
    have hneg : (decodeSample raw r).toInt < 0 := of_decide_eq_true (BitVec.msb_eq_toInt ▸ hmsb)
    exact ⟨raw.msb_eq_getLsbD_last.symm.trans h, hneg,
      mul_neg_of_neg_of_pos (Int.cast_lt_zero.mpr hneg) (weight_pos r)⟩

/-- Settles O19: the response carries the decoded count and the cached code, field by field. -/
theorem tsConvDeliversCountAndCode : Obligations.TsConvDeliversCountAndCode := by
  intro s raw
  refine ⟨commandWord_setWidth_toNat le_rfl raw 0x4, fun hv => congrArg _ (requireTs_invalid _ hv), fun hv =>
    ⟨responseWord (decodeSample raw s.tsRes) s.tsRes true .ok, congrArg _ (requireTs_valid _ hv), ?_,
      respRes_responseWord _ _ _ _, respDv_responseWord _ _ _ _, respStatus_responseWord _ _ _ _,
      respRsv_responseWord _ _ _ _, ?_⟩⟩
  · rw [respData_responseWord, decodeSample_toInt, shiftAmount_eq_sub]
  · rw [respRes_responseWord, celsius_eq]

/-- Settles O44: a command's writes are its own, and the TS commands are no writers of these registers. -/
theorem sensorCommandsFrame : Obligations.SensorCommandsFrame := by
  intro i s t hi h
  obtain rfl := execState_eq_of_next h
  obtain ⟨hvalid, haddr, hcursor⟩ := sensorCommand_memUnit hi s
  refine ⟨hvalid, haddr, hcursor, (execState_extends i s).stream, (execState_extends i s).strap,
    fun hne => execState_tsAddr_tsValid hne s, ?rdraw, ?conv⟩
  case rdraw =>
    rintro ⟨nd, rfl⟩
    exact execState_registers rfl s
  case conv =>
    rintro ⟨raw, rfl⟩
    exact ⟨execState_registers rfl s, execState_tsConv_record raw s⟩

/-- Settles O10: the table's four rows. -/
theorem resolutionTableClosedForms : Obligations.ResolutionTableClosedForms := fun r =>
  ⟨shiftAmount_eq_sub r, signMask_eq_twoPow r, signMask_eq_shiftLeft r, extMask_eq_shiftLeft r, weight_eq_pow r⟩

/-- Settles O15: TS_INIT ends by its first answer if that is FAIL, and by its second otherwise. -/
theorem tsInitConstructsTheUnit : Obligations.TsInitConstructsTheUnit := by
  intro s a
  refine ⟨commandWord_setWidth_toNat (by decide) a 0x0, fun rest h => ?ptrFails, fun x y rest h => ?rdFails,
    fun x y cfg z rest h => ?reads⟩
  case ptrFails => exact congrArg _ (resume_one (s := s.setTsAddr a) _ .tsInitPtr h)
  case rdFails | reads => exact congrArg _ (resume_two (s := s.setTsAddr a) _ .tsInitPtr h fun _ => rfl)

/-- Settles O16: the answer to the one frame decides. -/
theorem tsWrcfgWritesTheConfiguration : Obligations.TsWrcfgWritesTheConfiguration := by
  intro s v
  refine ⟨commandWord_setWidth_toNat (by decide) v 0x1, fun hv => congrArg _ (requireTs_invalid _ hv),
    fun rest hv h => ?fails, fun x y rest hv h => ?writes⟩
  case fails | writes => rw [exec_tsWrcfg_valid hv, resume_one _ _ h]; rfl

/-- Settles O17: TS_TRIG by its first answer, its second, SD of the byte read, and its third answer. -/
theorem tsTrigTriggersAndWaits : Obligations.TsTrigTriggersAndWaits := by
  refine ⟨by decide, fun s => ⟨fun hv => congrArg _ (requireTs_invalid _ hv), fun rest hv h => ?ptrFails,
    fun x y rest hv h => ?rdFails, fun x y cfg z rest hv h hsd => ?notReady,
    fun x y cfg z rest hv h hsd => ?wrFails,
    fun x y cfg z x' y' rest hv h hsd => ⟨_, rfl, ?triggers, waitEndsWithTheResponse _ _ _ rfl⟩⟩⟩
  case ptrFails => rw [exec_tsTrig_valid hv, resume_one _ _ h]; rfl
  case rdFails => rw [exec_tsTrig_read hv h]; rfl
  case notReady =>
    rw [exec_tsTrig_read hv h, afterCfgRd_ok, tsTrigCheck_notReady hsd]
    rfl
  case wrFails => rw [exec_tsTrig_writeBack hv hsd h]; rfl
  case triggers =>
    rw [exec_tsTrig_writeBack hv hsd h, tsTrigFinish, refreshCache_withOneShot]
    rfl

/-- Settles O18: the two checks, and then TS_RDRAW by its first answer and its second. -/
theorem tsRdrawReadsTheSample : Obligations.TsRdrawReadsTheSample := by
  refine ⟨fun nd => ?word, fun s => ⟨fun nd hv => congrArg _ (requireTs_invalid _ hv),
    fun hv => congrArg _ (requireTs_valid _ hv), fun rest hv h => ?ptrFails, fun x y rest hv h => ?rdFails,
    fun x y b0 b1 rest hv h => ?reads⟩⟩
  case word =>
    rw [encode, commandWord_toNat_add]
    simp
  case ptrFails => rw [exec_tsRdraw_valid hv, resume_one _ _ h]; rfl
  case rdFails => rw [exec_tsRdraw_read hv h]; rfl
  case reads =>
    rw [exec_tsRdraw_read hv h, finishRead_ok]
    rfl

end Sys2Proof.Machine
end

section
/-! PROOFS, family 42_sequential_memory: the cursor's increment (O14), the four commands of the SMU by the answers they
meet (O20 to O23) and what they leave unchanged (O45), and with the reference memory an append, a read, and the round
trip of appended values (O49 to O51). -/

namespace Sys2Proof.Machine

/-! ### The cursor's increment -/

theorem nextCursor_toNat {c : Half} (h : c.toNat ≤ 0x7FFF) : (nextCursor c).toNat = (c.toNat + 1) % 0x8000 := by
  unfold nextCursor
  split
  · next hc => subst hc; decide
  · next hc =>
    have hne : c ≠ 0x7FFF#16 := hc
    bv_omega

theorem nextCursor_eq_and {c : Half} (h : c.toNat ≤ 0x7FFF) : nextCursor c = (c + 1) &&& 0x7FFF := by
  apply BitVec.eq_of_toNat_eq
  calc (nextCursor c).toNat = (c.toNat + 1) % 0x8000 := nextCursor_toNat h
    _ = (c + 1).toNat % 2 ^ 15 := by bv_omega
    _ = ((c + 1) &&& 0x7FFF).toNat := (Nat.and_two_pow_sub_one_eq_mod _ 15).symm

/-! ### The MEM commands behind their checks, by their answers -/

section Valid
variable {s : State} (hv : s.memValid = true)
include hv

theorem exec_memWrseq_valid (d : Half) :
    exec (.memWrseq d) s = .next (s.resume (encode (.memWrseq d)) (.memWrseqWr d)) :=
  congrArg _ (requireMem_valid _ hv)

theorem exec_memRdat_initialised (a : Half) (nd : Bool) :
    exec (.memRdat a nd) s = .next (if maxAddr.toNat < a.toNat || nd then s.deliver 0x00000002
      else s.resume (encode (.memRdat a nd)) (.memRdatPtr a)) :=
  congrArg _ (requireMem_valid _ hv)

/-- R103's argument check, failed: nothing goes out. -/
theorem exec_memRdat_invalid {a : Half} {nd : Bool} (h : 0x7FFF < a.toNat ∨ nd = true) :
    exec (.memRdat a nd) s = .next (s.deliver 0x00000002) :=
  (exec_memRdat_initialised hv a nd).trans (congrArg _ (if_pos (by simpa [maxAddr] using h)))

/-- R103's argument check, passed: the read begins with its pointer write. -/
theorem exec_memRdat_valid {a : Half} (h : a.toNat ≤ 0x7FFF) :
    exec (.memRdat a false) s = .next (s.resume (encode (.memRdat a false)) (.memRdatPtr a)) :=
  (exec_memRdat_initialised hv a false).trans (congrArg _ (if_neg (by simpa [maxAddr] using h)))

variable {x y : Byte} {rest : List Answer}

/-- An append whose frame is answered OK advances the cursor and begins its wait. -/
theorem exec_memWrseq_ok (d : Half) (h : s.answers = .ok x y :: rest) :
    exec (.memWrseq d) s = .next (((s.exchanged (encode (.memWrseq d)) [(Position.memWrseqWr d).exchange s (.ok x y)]
      rest).setCursor (nextCursor s.cursor)).setSequencer (.wait (encode (.memWrseq d)) .tWr)) := by
  rw [exec_memWrseq_valid hv, resume_one _ _ h]
  rfl

/-- MEM_RDAT ends as the answer to its second frame says. -/
theorem exec_memRdat_read {a : Half} (ha : a.toNat ≤ 0x7FFF) {b : Answer} (h : s.answers = .ok x y :: b :: rest) :
    exec (.memRdat a false) s = .next (finishRead b (s.exchanged (encode (.memRdat a false))
      [(Position.memRdatPtr a).exchange s (.ok x y), Position.memRdatRd.exchange s b] rest)) := by
  rw [exec_memRdat_valid hv ha, resume_two (q := .memRdatRd) _ _ h fun _ => rfl]
  rfl

end Valid

/-! ### What the MEM commands leave unchanged -/

/-- A MEM command commutes with every change of the TSU's registers, so also with writing to them what they hold. -/
theorem memoryCommand_sensorUnit {i : Instr} (hi : isSensorCommand i = false) (s : State) :
    (execState i s).tsValid = s.tsValid ∧ (execState i s).tsAddr = s.tsAddr ∧
    (execState i s).tsRes = s.tsRes := by
  have h : (execState i s).withSensorUnit s.tsValid s.tsAddr s.tsRes = execState i s :=
    memoryCommand_commute_withSensorUnit _ _ _ hi s
  exact ⟨(congrArg State.tsValid h).symm, (congrArg State.tsAddr h).symm, (congrArg State.tsRes h).symm⟩

theorem execState_memAddr_memValid {i : Instr} (hi : ∀ a, i ≠ .memInit a) (s : State) :
    (execState i s).memAddr = s.memAddr ∧ (execState i s).memValid = s.memValid := by
  obtain ⟨-, hmv, -, hma, -, -⟩ := execState_writesAllowed i s
  have hno {j : Instr} := of_encode_eq (P := (∀ a, · ≠ .memInit a)) (j := j) hi
  refine ⟨?_, ?_⟩ <;> by_contra h
  · exact hno (hma h) _ rfl
  · obtain ⟨-, a, ha⟩ := hmv h
    exact hno ha a rfl

/-- MEM_CURSOR makes no request (R104). -/
theorem execState_memCursor_record (s : State) :
    (execState .memCursor s).trace = s.trace ∧ (execState .memCursor s).answers = s.answers :=
  requireMem_ind (P := fun t => t.trace = s.trace ∧ t.answers = s.answers) (fun _ => ⟨rfl, rfl⟩)
    fun _ => ⟨rfl, rfl⟩

/-! ### The reference memory (R48) -/

/-- With the value written at the first offset after those of ds, the device holds one value more. -/
theorem map_itemAt_writeItem {m : Items} (hm : itemsWf m = true) {ds : List Half}
    (h : (List.range ds.length).map (itemAt m) = ds) (d : Half) :
    (List.range (ds.length + 1)).map (itemAt (writeItem m ds.length d)) = ds ++ [d] := by
  have hkept : ∀ k ∈ List.range ds.length, itemAt (writeItem m ds.length d) k = itemAt m k := by
    intro k hk
    rw [itemAt_writeItem m hm, if_neg (List.mem_range.mp hk).ne]
  have hnew : itemAt (writeItem m ds.length d) ds.length = d := by
    rw [itemAt_writeItem m hm, if_pos rfl]
  rw [List.range_succ, List.map_append, List.map_congr_left hkept, h, List.map_singleton, hnew]

theorem device_receive (a7 : Addr7) (n : Nat) : (receive (readAddress a7) n).device = a7 :=
  BitVec.extractLsb'_append_eq_left

/-- The SMU is constructed for the reference memory, which no other device hides, and no write cycle is under way. -/
structure Platform.MemoryReady (p : Platform) : Prop where
  valid : p.chip.memValid = true
  addr : p.chip.memAddr = p.memory.addr
  apart : p.memory.addr ≠ p.sensor.addr
  notBusy : p.memory.busy = false

namespace Platform.MemoryReady
variable {p : Platform} {x : Draw} (h : p.MemoryReady) (hx : x.failed = false)
include h

theorem setSequencer (q : Sequencer) : MemoryReady { p with chip := p.chip.setSequencer q } :=
  ⟨h.valid, h.addr, h.apart, h.notBusy⟩

theorem withMptr (a : Half) : MemoryReady { p with memory := { p.memory with mptr := a } } :=
  ⟨h.valid, h.addr, h.apart, h.notBusy⟩

theorem serve_eq {q : Request} (hq : q.device = p.chip.memAddr) :
    serve p.sensor p.memory x q = ((serveMemory p.memory x q).1, p.sensor, (serveMemory p.memory x q).2) := by
  simp [serve, hq.trans h.addr, h.apart]

include hx

theorem serve_memWr (c d : Half) :
    serve p.sensor p.memory x (memWr p.chip c d) = (.ok x.any0 x.any1, p.sensor,
      { p.memory with items := writeItem p.memory.items c.toNat d, mptr := c, busy := true }) := by
  rw [memWr, h.serve_eq (device_transmit _ _)]
  simp [serveMemory, transmit, split, merge_split, h.notBusy, hx]

theorem serve_memPtr (a : Half) :
    serve p.sensor p.memory x (memPtr p.chip a) =
      (.ok x.any0 x.any1, p.sensor, { p.memory with mptr := a }) := by
  rw [memPtr, h.serve_eq (device_transmit _ _)]
  simp [serveMemory, transmit, split, merge_split, h.notBusy, hx]

theorem serve_memRd :
    serve p.sensor p.memory x (memRd p.chip) =
      (.ok ((itemAt p.memory.items p.memory.mptr.toNat).extractLsb' 8 8)
        ((itemAt p.memory.items p.memory.mptr.toNat).extractLsb' 0 8), p.sensor, p.memory) := by
  rw [memRd, h.serve_eq (device_receive _ _)]
  simp [serveMemory, receive, h.notBusy, hx]

end Platform.MemoryReady

/-! ### A command's frames on the platform -/

theorem exchange_exchanged (p : Position) (s : State) (cur : Word) (es : List Event) (rest : List Answer)
    (a : Answer) : p.exchange (s.exchanged cur es rest) a = p.exchange s a := by
  simp only [Position.exchange, request_exchanged]

theorem exchanged_exchanged (s : State) (cur : Word) (es es' : List Event) (rest rest' : List Answer) :
    (s.exchanged cur es rest).exchanged cur es' rest' = s.exchanged cur (es ++ es') rest' := by
  simp only [State.exchanged, List.append_assoc]

namespace Platform
variable {p : Platform} {i : Instr} {w : Word} {pos : Position} {a : Answer} {x : Draw} {rest : List Draw}
  {sensor : RefSensor} {memory : RefMemory}

theorem run_add (m n : Nat) (p : Platform) : p.run (m + n) = (p.run m).run n := by
  induction m generalizing p with
  | zero => rw [Nat.zero_add]; rfl
  | succ m ih => rw [Nat.succ_add]; exact ih p.step

/-- The devices answer the outstanding frame of a command that came to BUS from s, and the command goes on. -/
theorem step_of_setSequencer_bus {s : State} {y : RefSensor} {m : RefMemory}
    (ha : serve y m x (pos.request s) = (a, sensor, memory)) :
    Platform.step { chip := s.setSequencer (.bus w pos), sensor := y, memory := m, draws := x :: rest } =
      { chip := pos.rest w a (s.exchanged w [pos.exchange s a] [])
        sensor := sensor, memory := memory, draws := rest } := by
  have hgo : ((s.setSequencer (.bus w pos)).setAnswers [a]).resume w pos =
      pos.rest w a ((s.setAnswers [a]).exchanged w [pos.exchange (s.setAnswers [a]) a] []) :=
    (resume_setSequencer (s.setAnswers [a]) _ w pos).trans (resume_one w pos rfl)
  rw [step_of_bus rfl rfl (request_setSequencer pos s _ ▸ ha), hgo, Position.exchange, request_setAnswers]
  rfl

/-- Two steps from EXEC of a command whose first frame is at `pos`: the frame goes out, and the command goes on from the
devices' answer. -/
theorem run_two_of_exec (hs : p.chip.sequencer = .exec (encode i))
    (hi : execState i (p.chip.setAnswers []) = (p.chip.setAnswers []).setSequencer (.bus (encode i) pos))
    (hd : p.draws = x :: rest) (ha : serve p.sensor p.memory x (pos.request p.chip) = (a, sensor, memory)) :
    p.run 2 =
      { chip := pos.rest (encode i) a (p.chip.exchanged (encode i) [pos.exchange p.chip a] [])
        sensor := sensor, memory := memory, draws := rest } := by
  have hbus : p.step = { chip := (p.chip.setAnswers []).setSequencer (.bus (encode i) pos)
                         sensor := p.sensor, memory := p.memory, draws := x :: rest } := by
    rw [step_of_exec hs, chipStep_exec (s := p.chip.setAnswers []) hs, hi, hd]
  have hreq : pos.request (p.chip.setAnswers []) = pos.request p.chip := request_setAnswers _ _ _
  calc p.run 2 = _ := congrArg Platform.step hbus
    _ = _ := step_of_setSequencer_bus (hreq ▸ ha)
    _ = _ := by rw [Position.exchange, hreq]; rfl

section Transfers
variable (h : p.MemoryReady)
include h

/-- Three steps from EXEC of an append: its frame is stored at the cursor, and the wait ends with the response. -/
theorem MemoryReady.run_memWrseq {d : Half} (hs : p.chip.sequencer = .exec (encode (.memWrseq d)))
    (hd : p.draws = x :: rest) (hx : x.failed = false) :
    p.run 3 =
      { chip := ((p.chip.exchanged (encode (.memWrseq d))
          [(Position.memWrseqWr d).exchange p.chip (.ok x.any0 x.any1)] []).setCursor
            (nextCursor p.chip.cursor)).endWait .tWr
        sensor := p.sensor
        memory := { p.memory with
          items := writeItem p.memory.items p.chip.cursor.toNat d, mptr := p.chip.cursor, busy := false }
        draws := rest } := by
  calc p.run 3 = (p.run 2).step := rfl
    _ = _ := congrArg Platform.step
      (run_two_of_exec (pos := .memWrseqWr d) hs (execState_memWrseq_unanswered h.valid d) hd (h.serve_memWr hx _ d))
    _ = _ := step_of_wait rfl
    _ = _ := by
      rw [chipStep_eq_of_next (step_wait rfl)]
      rfl

/-- Three steps from EXEC of a read: its two frames, and the response with the item at the offset. -/
theorem MemoryReady.run_memRdat {b : Half} (hb : b.toNat ≤ 0x7FFF) {y : Draw}
    (hs : p.chip.sequencer = .exec (encode (.memRdat b false)))
    (hd : p.draws = x :: y :: rest) (hx : x.failed = false) (hy : y.failed = false) :
    p.run 3 =
      { chip := (p.chip.exchanged (encode (.memRdat b false))
          [(Position.memRdatPtr b).exchange p.chip (.ok x.any0 x.any1),
            Position.memRdatRd.exchange p.chip (.ok ((itemAt p.memory.items b.toNat).extractLsb' 8 8)
              ((itemAt p.memory.items b.toNat).extractLsb' 0 8))] []).deliver
            (itemAt p.memory.items b.toNat ++ 0x0008#16)
        sensor := p.sensor, memory := { p.memory with mptr := b }, draws := rest } := by
  have hfirst : execState (.memRdat b false) (p.chip.setAnswers []) = _ :=
    execState_eq_of_next (exec_memRdat_unanswered (s := p.chip.setAnswers []) rfl h.valid hb)
  calc p.run 3 = (p.run 2).step := rfl
    _ = _ := congrArg Platform.step (run_two_of_exec (pos := .memRdatPtr b) hs hfirst hd (h.serve_memPtr hx b))
    _ = _ := step_of_setSequencer_bus (pos := .memRdatRd) ((h.withMptr b).serve_memRd hy)
    _ = _ := by
      rw [exchange_exchanged, exchanged_exchanged, Position.rest, finishRead_ok, merge_split]
      rfl

end Transfers

/-! ### A program of appends and reads on the platform -/

/-- The host is about to issue the words of `program`, and `n` draws are left, none of which injects a failure. -/
structure Runs (p : Platform) (program : List Word) (n : Nat) : Prop extends p.MemoryReady where
  idle : p.chip.sequencer = .idle
  items : itemsWf p.memory.items = true
  stream : p.chip.stream.drop p.chip.cmdIdx = program
  draws : p.draws.length = n
  noFailure : ∀ x ∈ p.draws, x.failed = false

namespace Runs
variable {ws : List Word} {n : Nat}

/-- The step in IDLE issues the program's first word. -/
theorem step_eq (h : p.Runs (w :: ws) n) : p.step = { p with chip := p.chip.setSequencer (.exec w) } := by
  have hw : p.chip.stream[p.chip.cmdIdx]? = some w := by rw [← List.head?_drop, h.stream]; rfl
  rw [step_of_idle h.idle, chipStep_eq_of_next (step_idle h.idle), acceptNext_some hw]

theorem stream_next (h : p.Runs (w :: ws) n) : p.chip.stream.drop (p.chip.cmdIdx + 1) = ws := by
  rw [← List.tail_drop, h.stream, List.tail_cons]

theorem exists_draw (h : p.Runs ws (n + 1)) : ∃ x rest, p.draws = x :: rest ∧ x.failed = false ∧
    rest.length = n ∧ ∀ y ∈ rest, y.failed = false := by
  obtain ⟨x, rest, hd⟩ := List.exists_cons_of_length_eq_add_one h.draws
  obtain ⟨hx, hplain⟩ := List.forall_mem_cons.mp (hd ▸ h.noFailure)
  have hlen : (x :: rest).length = n + 1 := hd ▸ h.draws
  exact ⟨x, rest, hd, hx, Nat.succ.inj hlen, hplain⟩

/-- Four steps issue and run an append. -/
theorem append {d : Half} (h : p.Runs (encode (.memWrseq d) :: ws) (n + 1)) :
    (p.run 4).Runs ws n ∧ (p.run 4).chip.responses = p.chip.responses ++ [0x00000000] ∧
    (p.run 4).chip.cursor = nextCursor p.chip.cursor ∧
    (p.run 4).memory.items = writeItem p.memory.items p.chip.cursor.toNat d := by
  obtain ⟨x, rest, hd, hx, hlen, hplain⟩ := h.exists_draw
  have hrun : p.run 4 = _ :=
    (congrArg (Platform.run 3) h.step_eq).trans ((h.toMemoryReady.setSequencer _).run_memWrseq rfl hd hx)
  rw [hrun]
  exact ⟨⟨⟨h.valid, h.addr, h.apart, rfl⟩, rfl, itemsWf_writeItem _ h.items _ _, h.stream_next, hlen, hplain⟩,
    rfl, rfl, rfl⟩

/-- Four steps issue and run a read. -/
theorem read {a : Half} (ha : a.toNat ≤ 0x7FFF) (h : p.Runs (encode (.memRdat a false) :: ws) (n + 2)) :
    (p.run 4).Runs ws n ∧
    (p.run 4).chip.responses = p.chip.responses ++ [itemAt p.memory.items a.toNat ++ 0x0008#16] ∧
    (p.run 4).memory.items = p.memory.items := by
  obtain ⟨x, rest, hd, hx, hlen, hplain⟩ := h.exists_draw
  obtain ⟨y, rest, rfl⟩ := List.exists_cons_of_length_eq_add_one hlen
  obtain ⟨hy, hplain⟩ := List.forall_mem_cons.mp hplain
  have hrun : p.run 4 = _ :=
    (congrArg (Platform.run 3) h.step_eq).trans ((h.toMemoryReady.setSequencer _).run_memRdat ha rfl hd hx hy)
  rw [hrun]
  exact ⟨⟨⟨h.valid, h.addr, h.apart, h.notBusy⟩, rfl, h.items, h.stream_next, Nat.succ.inj hlen, hplain⟩, rfl, rfl⟩

/-- After appends from cursor 0 the device holds the values at their offsets, in order. -/
theorem appends {ds : List Half} (hlen : ds.length ≤ 0x8000) (hc : p.chip.cursor = 0)
    (h : p.Runs (ds.map (fun d => encode (.memWrseq d)) ++ ws) (n + ds.length)) :
    (p.run (4 * ds.length)).Runs ws n ∧
    (p.run (4 * ds.length)).chip.responses = p.chip.responses ++ List.replicate ds.length 0x00000000 ∧
    (p.run (4 * ds.length)).chip.cursor.toNat = ds.length % 0x8000 ∧
    (List.range ds.length).map (itemAt (p.run (4 * ds.length)).memory.items) = ds := by
  induction ds using List.reverseRecOn generalizing ws n with
  | nil => exact ⟨h, (List.append_nil _).symm, congrArg BitVec.toNat hc, rfl⟩
  | append_singleton ds d ih =>
    rw [List.length_append, List.length_singleton] at hlen
    have hprogram : p.Runs (ds.map (fun d => encode (.memWrseq d)) ++ encode (.memWrseq d) :: ws)
        (n + 1 + ds.length) := by
      simpa [Nat.add_assoc, Nat.add_comm 1] using h
    obtain ⟨hq, hresponses, hcursor, hitems⟩ := ih (by omega) hprogram
    rw [Nat.mod_eq_of_lt (by omega)] at hcursor
    obtain ⟨hq', hresponses', hcursor', hitems'⟩ := hq.append
    rw [List.length_append, List.length_singleton, Nat.mul_succ, run_add]
    refine ⟨hq', ?_, ?_, ?_⟩
    · rw [hresponses', hresponses, List.replicate_succ', List.append_assoc]
    · rw [hcursor', nextCursor_toNat (by omega), hcursor]
    · rw [hitems', hcursor]
      exact map_itemAt_writeItem hq.items hitems d

/-- Reads answer the items at their offsets. -/
theorem reads {offsets : List Nat} (ho : ∀ k ∈ offsets, k < 0x8000)
    (h : p.Runs (offsets.map fun k => encode (.memRdat (BitVec.ofNat 16 k) false)) (2 * offsets.length)) :
    (p.run (4 * offsets.length)).chip.responses =
      p.chip.responses ++ (offsets.map (itemAt p.memory.items)).map (fun d => d ++ 0x0008#16) := by
  induction offsets generalizing p with
  | nil => exact (List.append_nil _).symm
  | cons k offsets ih =>
    obtain ⟨hk, ho⟩ := List.forall_mem_cons.mp ho
    have hoffset : (BitVec.ofNat 16 k).toNat = k := Nat.mod_eq_of_lt (by omega)
    obtain ⟨hq, hresponses, hitems⟩ := h.read (by omega)
    rw [List.length_cons, Nat.mul_succ, Nat.add_comm, run_add, ih ho hq, hresponses, hitems, hoffset,
      List.append_assoc]
    rfl

end Runs

end Platform

/-! ### The obligations -/

/-- Settles O14: the increment as a number modulo 0x8000, and the frame that goes out before it. -/
theorem cursorIncrementWraps : Obligations.CursorIncrementWraps := by
  refine ⟨fun c h => ⟨rfl, nextCursor_eq_and h, nextCursor_toNat h⟩, fun s d x y rest hv hc h =>
    ⟨_, exec_memWrseq_ok hv d h, ?cursor, ?frame⟩⟩
  case cursor => exact congrArg nextCursor hc
  case frame =>
    simp [State.exchanged, Position.exchange, Position.request, memWr, transmit, split, Request.reply, hc]

/-- Settles O45: a MEM command's writes are its own, and it is blind to the TSU's registers. -/
theorem memoryCommandsFrame : Obligations.MemoryCommandsFrame := by
  intro i s t hi h
  obtain rfl := execState_eq_of_next h
  obtain ⟨hvalid, haddr, hres⟩ := memoryCommand_sensorUnit hi s
  refine ⟨hvalid, haddr, hres, (execState_extends i s).stream, (execState_extends i s).strap,
    fun hne => execState_memAddr_memValid hne s, ?reads, ?silent⟩
  case reads => rintro (⟨a, nd, rfl⟩ | rfl) <;> exact execState_registers rfl s
  case silent =>
    rintro (⟨a, rfl⟩ | rfl)
    · exact ⟨rfl, rfl⟩
    · exact execState_memCursor_record s

/-- Settles O49: the append's run, and a read after a write of the items. -/
theorem appendStoresAtTheCursor : Obligations.AppendStoresAtTheCursor := by
  intro p d x rest hs hv haddr hne hbusy hitems hd hx
  have hready : p.MemoryReady := ⟨hv, haddr, hne, hbusy⟩
  rw [hready.run_memWrseq hs hd hx]
  exact ⟨rfl, rfl, rfl, rfl, rfl, rfl, by simp [itemAt_writeItem _ hitems],
    fun a ha => by simp [itemAt_writeItem _ hitems, ha]⟩

/-- Settles O50: the read's run. -/
theorem readReturnsTheStoredItem : Obligations.ReadReturnsTheStoredItem := by
  intro p a x y rest hs hv ha haddr hne hbusy hd hx hy
  have hready : p.MemoryReady := ⟨hv, haddr, hne, hbusy⟩
  rw [hready.run_memRdat ha hs hd hx hy]
  exact ⟨rfl, rfl, rfl, rfl, rfl⟩

/-- Settles O51: the appends leave each value at its offset, and the reads answer what stands there. -/
theorem appendedValuesReadBack : Obligations.AppendedValuesReadBack := by
  intro p ds hlen hidle hv hc haddr hne hbusy hitems hstream hdraws hplain
  have hruns : p.Runs _ (2 * ds.length + ds.length) :=
    ⟨⟨hv, haddr, hne, hbusy⟩, hidle, hitems, hstream, hdraws.trans (by omega), hplain⟩
  obtain ⟨hq, hresponses, -, hstored⟩ := hruns.appends hlen hc
  have hreads := Platform.Runs.reads (p := p.run (4 * ds.length)) (offsets := List.range ds.length)
    (fun k hk => (List.mem_range.mp hk).trans_le hlen) (by rwa [List.length_range])
  have htwice : 8 * ds.length = 4 * ds.length + 4 * ds.length := by omega
  rw [List.length_range, hstored, hresponses] at hreads
  rw [htwice, Platform.run_add, hreads]

/-- Settles O20: MEM_INIT has neither a check nor a request. -/
theorem memInitConstructsTheUnit : Obligations.MemInitConstructsTheUnit := fun _ a =>
  ⟨commandWord_setWidth_toNat (by decide) a 0x8, rfl⟩

/-- Settles O21: the check, and then the answer to the one frame decides. -/
theorem memWrseqAppendsAtTheCursor : Obligations.MemWrseqAppendsAtTheCursor := by
  intro s d
  refine ⟨commandWord_setWidth_toNat le_rfl d 0x9, fun hv => congrArg _ (requireMem_invalid _ hv),
    fun rest hv h => ?fails, fun x y rest hv h => ⟨_, rfl, exec_memWrseq_ok hv d h, waitEndsWithTheResponse _ _ _ rfl⟩⟩
  case fails => rw [exec_memWrseq_valid hv, resume_one _ _ h]; rfl

/-- Settles O22: the two checks, and then MEM_RDAT by its first answer and its second. -/
theorem memRdatReadsTheOffset : Obligations.MemRdatReadsTheOffset := by
  intro s a nd
  refine ⟨commandWord_toNat_add a nd 0xA, fun hv => congrArg _ (requireMem_invalid _ hv),
    fun hv h => exec_memRdat_invalid hv h, ?ptrFails, ?rdFails, ?reads⟩
  case ptrFails =>
    rintro rest hv ha rfl h
    rw [exec_memRdat_valid hv ha, resume_one _ _ h]; rfl
  case rdFails =>
    rintro x y rest hv ha rfl h
    rw [exec_memRdat_read hv ha h]; rfl
  case reads =>
    rintro x y b0 b1 rest hv ha rfl h
    rw [exec_memRdat_read hv ha h, finishRead_ok]
    rfl

/-- Settles O23: behind its check MEM_CURSOR has one ending. -/
theorem memCursorDeliversTheCursor : Obligations.MemCursorDeliversTheCursor :=
  ⟨by decide, fun s => ⟨fun hv => congrArg _ (requireMem_invalid _ hv), fun hv =>
    congrArg Host.Outcome.next ((requireMem_valid _ hv).trans (State.doneWith_eq s s.cursor))⟩⟩

end Sys2Proof.Machine
end

section
/-! PROOFS, family 60_exceptions: the statuses that a command's response may carry (O42), an error leaves the registers
(O41), the two refusals (O26, O27), a transport that never answers (O31), and the delivery of a response (O25). -/

namespace Sys2Proof.Machine

/-! ### The response that a part of a command delivers -/

/-- From s to t no response is delivered, or one, with a status of the list. -/
def State.RespondsAmong (allowed : List Status) (s t : State) : Prop :=
  t.responses = s.responses ∨ ∃ e ∈ allowed, ∃ r, t.responses = s.responses ++ [r] ∧ respStatus r = e.code

/-- The statuses of the response to a command that has come to a position: TS_INIT has no error (R93), and
DEVICE_NOT_READY is TS_TRIG's alone (R95). -/
def Position.statuses (p : Position) : List Status :=
  match p with
  | .tsInitPtr | .tsInitRd => [.ok]
  | .tsTrigPtr | .tsTrigRd | .tsTrigWr _ => [.transportError, .deviceNotReady]
  | .tsWrcfgWr _ | .tsRdrawPtr | .tsRdrawRd | .memWrseqWr _ | .memRdatPtr _ | .memRdatRd => [.ok, .transportError]

section Responses
variable {allowed allowed' : List Status} {s t : State} {i : Instr}

namespace State.RespondsAmong

/-- Every ending of a command delivers a word of this form. -/
theorem deliver {d : Half} {c : ResCode} {dv : Bool} {e : Status} (he : e ∈ allowed) :
    s.RespondsAmong allowed (s.deliver (responseWord d c dv e)) :=
  .inr ⟨e, he, _, rfl, respStatus_responseWord d c dv e⟩

/-- The ending of the checks before a command (R108). -/
theorem uninitialised (hu : .uninitialised ∈ allowed) : s.RespondsAmong allowed (s.deliver 0x00000006#32) :=
  deliver (d := 0) (c := 0) (dv := false) hu

theorem mono (h : s.RespondsAmong allowed t) (hsub : allowed ⊆ allowed') : s.RespondsAmong allowed' t :=
  h.imp_right fun ⟨e, he, hr⟩ => ⟨e, hsub he, hr⟩

theorem status (h : s.RespondsAmong allowed t) {r : Word} (hr : t.responses = s.responses ++ [r]) :
    ∃ e ∈ allowed, respStatus r = e.code := by
  rcases h with h | ⟨e, he, r', h, hst⟩
  · exact absurd (hr.symm.trans h) (by simp)
  · obtain rfl : r' = r := by simpa using h.symm.trans hr
    exact ⟨e, he, hst⟩

end State.RespondsAmong

open State.RespondsAmong

theorem refreshCache_responses (w : Byte) (s : State) : (refreshCache w s).responses = s.responses := by
  obtain ⟨r, e, -⟩ := refreshCache_eq_setTsRes w s
  exact e ▸ rfl

/-- A FAIL ends the command; after an OK answer it goes on at its next position, ends, or begins its wait. -/
theorem resume_respondsAmong (cur : Word) (p : Position) (s : State) :
    s.RespondsAmong p.statuses (s.resume cur p) := by
  induction ha : s.answers generalizing p s with
  | nil => exact resume_none cur p ha ▸ .inl rfl
  | cons a rest ih =>
    rw [resume_some cur p ha]
    cases a with
    | fail =>
      cases p with
      | tsInitPtr | tsInitRd => exact deliver (e := .ok) (List.mem_cons_self ..)
      | _ => exact deliver (e := .transportError) (by simp [Position.statuses])
    | ok b0 b1 =>
      cases p with
      | tsInitPtr => exact ih .tsInitRd _ rfl
      | tsTrigPtr => exact ih .tsTrigRd _ rfl
      | tsRdrawPtr => exact ih .tsRdrawRd _ rfl
      | memRdatPtr x => exact ih .memRdatRd _ rfl
      | tsTrigRd =>
        exact iteInduction (motive := s.RespondsAmong _) (fun _ => ih (.tsTrigWr (withOneShot b0)) _ rfl)
          (fun _ => deliver (e := .deviceNotReady) (by simp [Position.statuses]))
      | tsTrigWr w => exact .inl (refreshCache_responses w _)
      | memWrseqWr d => exact .inl rfl
      | tsInitRd | tsWrcfgWr v | tsRdrawRd | memRdatRd => exact deliver (e := .ok) (List.mem_cons_self ..)

theorem ok_mem_statuses (i : Instr) : .ok ∈ statuses i := by
  cases i <;> exact List.mem_cons_self ..

/-- A position that belongs to a command answers with statuses of that command. -/
theorem statuses_subset_of_positionLegal {p : Position} (hp : PositionLegal p (encode i) s) :
    p.statuses ⊆ statuses i := by
  have hi {j : Instr} (h : encode i = encode j) : i = j := encode_injective h
  cases p with
  | tsInitPtr | tsInitRd => cases hi hp; exact List.Subset.refl _
  | memRdatPtr a =>
    obtain ⟨-, -, hcur⟩ := hp
    cases hi hcur; simp [Position.statuses, statuses]
  | memRdatRd =>
    obtain ⟨-, a, -, hcur⟩ := hp
    cases hi hcur; simp [Position.statuses, statuses]
  | tsTrigWr w =>
    obtain ⟨-, hcur, -⟩ := hp
    cases hi hcur; simp [Position.statuses, statuses]
  | _ =>
    obtain ⟨-, hcur⟩ := hp
    cases hi hcur; simp [Position.statuses, statuses]

theorem resume_respondsAmong_of_positionLegal {p : Position} (hp : PositionLegal p (encode i) s) :
    s.RespondsAmong (statuses i) (s.resume (encode i) p) :=
  (resume_respondsAmong _ p s).mono (statuses_subset_of_positionLegal hp)

theorem requireTs_respondsAmong {k : State → State} (hu : .uninitialised ∈ allowed)
    (hk : s.tsValid = true → s.RespondsAmong allowed (k s)) : s.RespondsAmong allowed (requireTs k s) :=
  requireTs_ind (P := s.RespondsAmong allowed) (fun _ => uninitialised hu) hk

theorem requireMem_respondsAmong {k : State → State} (hu : .uninitialised ∈ allowed)
    (hk : s.memValid = true → s.RespondsAmong allowed (k s)) : s.RespondsAmong allowed (requireMem k s) :=
  requireMem_ind (P := s.RespondsAmong allowed) (fun _ => uninitialised hu) hk

theorem execState_respondsAmong (i : Instr) (s : State) : s.RespondsAmong (statuses i) (execState i s) := by
  cases i with
  | tsInit addr => exact resume_respondsAmong _ .tsInitPtr (s.setTsAddr addr)
  | tsWrcfg cfg =>
    exact requireTs_respondsAmong (by simp [statuses]) fun hv =>
      resume_respondsAmong_of_positionLegal (p := .tsWrcfgWr cfg) ⟨hv, rfl⟩
  | tsTrig =>
    exact requireTs_respondsAmong (by simp [statuses]) fun hv =>
      resume_respondsAmong_of_positionLegal (p := .tsTrigPtr) ⟨hv, rfl⟩
  | tsRdraw nodst =>
    refine requireTs_respondsAmong (by simp [statuses]) fun hv => ?_
    cases nodst with
    | true => exact deliver (e := .invalidArgument) (by simp [statuses])
    | false => exact resume_respondsAmong_of_positionLegal (p := .tsRdrawPtr) ⟨hv, rfl⟩
  | tsConv raw => exact requireTs_respondsAmong (by simp [statuses]) fun _ => deliver (e := .ok) (ok_mem_statuses _)
  | memInit addr => exact deliver (e := .ok) (ok_mem_statuses _)
  | memWrseq data =>
    exact requireMem_respondsAmong (by simp [statuses]) fun hv =>
      resume_respondsAmong_of_positionLegal (p := .memWrseqWr data) ⟨hv, rfl⟩
  | memRdat address nodst =>
    refine requireMem_respondsAmong (by simp [statuses]) fun hv => ?_
    exact iteInduction (motive := s.RespondsAmong _) (fun _ => deliver (e := .invalidArgument) (by simp [statuses]))
      (fun _ => (resume_respondsAmong _ (.memRdatPtr address) s).mono (by simp [Position.statuses, statuses]))
  | memCursor => exact requireMem_respondsAmong (by simp [statuses]) fun _ => deliver (e := .ok) (ok_mem_statuses _)

theorem chipStep_respondsAmong (hs : SequencerLegal s) (hcur : s.cur = some (encode i)) :
    s.RespondsAmong (statuses i) (chipStep s) := by
  cases hq : s.sequencer with
  | idle => simp [State.cur, hq] at hcur
  | exec w =>
    obtain rfl : w = encode i := by simpa [State.cur, hq] using hcur
    exact chipStep_exec hq ▸ execState_respondsAmong i s
  | bus w p =>
    obtain rfl : w = encode i := by simpa [State.cur, hq] using hcur
    exact chipStep_bus hq ▸
      (resume_respondsAmong _ p s).mono (statuses_subset_of_positionLegal (positionLegal_of_bus hq hs))
  | wait w d => exact chipStep_eq_of_next (step_wait hq) ▸ deliver (e := .ok) (ok_mem_statuses i)

end Responses

/-! ### Registers under an error -/

/-- From s to t no register is written, or the command is not left in BUS and any response of it is OK (R113). -/
def State.WritesOnlyOnSuccess (s t : State) : Prop :=
  t.registers = s.registers ∨ t.phase ≠ .bus ∧ ∀ r, t.responses = s.responses ++ [r] → respStatus r = 0

section Registers
variable {cur : Word} {p : Position} {s t : State}

namespace State.WritesOnlyOnSuccess

theorem done {s' : State} (hr : s'.responses = s.responses) : s.WritesOnlyOnSuccess s'.done := by
  refine .inr ⟨nofun, fun r h => ?_⟩
  obtain ⟨e, he, hst⟩ := RespondsAmong.status (s := s') (allowed := [.ok]) (.deliver (e := .ok) (by simp)) (hr ▸ h)
  cases List.mem_singleton.mp he
  exact hst

theorem wait {d : Duration} (hs : t.sequencer = .wait cur d) (hr : t.responses = s.responses) :
    s.WritesOnlyOnSuccess t :=
  .inr ⟨by simp [State.phase, hs], fun r h => by simp [hr] at h⟩

end State.WritesOnlyOnSuccess

theorem Concludes.writesOnlyOnSuccess (ht : Concludes cur s p t) : s.WritesOnlyOnSuccess t := by
  cases ht with
  | responds hr => exact .inl rfl
  | initialises hp => exact .done rfl
  | configures v => exact .done rfl
  | triggers w => exact .wait rfl (refreshCache_responses w s)
  | appends d => exact .wait rfl rfl

theorem Resumes.writesOnlyOnSuccess (ht : Resumes cur p s t) : s.WritesOnlyOnSuccess t := by
  induction ht with
  | outstanding ha => exact .inl rfl
  | goesOn ha hf ht ih => exact ih
  | concludes ha ht => exact ht.writesOnlyOnSuccess

/-- TS_INIT apart, which stores `TS_ADDR` before its first frame. -/
theorem Moves.writesOnlyOnSuccess (ht : Moves s t) (hne : ∀ a, s.sequencer ≠ .exec (encode (.tsInit a))) :
    s.WritesOnlyOnSuccess t := by
  cases ht with
  | stays hs => exact .inl rfl
  | accepts hs hw => exact .inl rfl
  | responds hs hr => exact .inl rfl
  | constructsMemory a hs => exact .done rfl
  | constructsSensor a hs ht => exact absurd hs (hne a)
  | requests hs hp ht => exact ht.writesOnlyOnSuccess
  | resumes hs ht => exact ht.writesOnlyOnSuccess
  | endsWait hs => exact .inl rfl

theorem execState_writesOnlyOnSuccess {i : Instr} (hi : ∀ a, i ≠ .tsInit a) (s : State) :
    s.WritesOnlyOnSuccess (execState i s) := by
  rw [← execState_ignoresSequencer i s (.exec (encode i))]
  exact (execState_moves (s := s.setSequencer _) rfl).writesOnlyOnSuccess fun a h =>
    hi a (encode_injective (Sequencer.exec.inj h))

end Registers

/-! ### A step that changes nothing -/

theorem setSequencer_of_eq {s : State} {q : Sequencer} (h : s.sequencer = q) : s.setSequencer q = s := h ▸ rfl

theorem stepTimes_of_step_eq_self {s : State} (h : step s = .next s) (k : Nat) : stepTimes k s = .next s := by
  induction k with
  | zero => rfl
  | succ k ih => simp only [stepTimes, h, ih]

/-! ### The obligations -/

/-- Settles O42: the checks of a command, and each position that belongs to it, answer with its statuses. -/
theorem statusesByCommand : Obligations.StatusesByCommand := by
  intro i s t r hs hcur h hr
  obtain rfl := chipStep_eq_of_next h
  exact (chipStep_respondsAmong hs hcur).status hr

/-- Settles O41: TS_INIT has no error, and every other command writes registers only when it has succeeded. -/
theorem errorsLeaveTheRegisters : Obligations.ErrorsLeaveTheRegisters := by
  refine ⟨fun s t r h hr herr => ?error, fun i s t hi h hbus => ?left, fun s t hs h hbus => ?stays⟩
  case error =>
    by_cases hinit : ∃ a, s.sequencer = .exec (encode (.tsInit a))
    · obtain ⟨a, ha⟩ := hinit
      have hlegal : SequencerLegal s := by simp [SequencerLegal, ha]
      obtain ⟨e, he, hst⟩ := statusesByCommand (.tsInit a) s t r hlegal (cur_of_exec ha) h hr
      cases List.mem_singleton.mp he
      exact absurd hst herr
    · exact ((step_moves h).writesOnlyOnSuccess (not_exists.mp hinit)).resolve_right fun ⟨_, hok⟩ => herr (hok r hr)
  case left =>
    obtain rfl := execState_eq_of_next h
    exact (execState_writesOnlyOnSuccess hi s).resolve_right fun ⟨hne, _⟩ => hne hbus
  case stays =>
    have hne : ∀ a, s.sequencer ≠ .exec (encode (.tsInit a)) := fun a ha => by simp [State.phase, ha] at hs
    exact ((step_moves h).writesOnlyOnSuccess hne).resolve_right fun ⟨hne, _⟩ => hne hbus

/-- Settles O27: a word that is not legal does not decode. -/
theorem illegalWordIsRefused : Obligations.IllegalWordIsRefused := by
  intro s w hs hw
  cases hd : decode w with
  | ok i =>
    obtain rfl := encode_eq_of_decode hd
    exact absurd (legal_encode i) (by simp [hw])
  | error e => exact step_exec_illegal hs hd

/-- Settles O31: a step without an answer leaves the request outstanding as it stands. -/
theorem silentTransportHangsInBus : Obligations.SilentTransportHangsInBus := by
  intro s w p k hs ha
  refine stepTimes_of_step_eq_self ?_ k
  rw [step_bus hs, resume_none w p ha, setSequencer_of_eq hs]

/-- Settles O25, by the definition of a delivery. -/
theorem deliveryEndsTheCommand : Obligations.DeliveryEndsTheCommand := fun _ _ => rfl

/-- Settles O26: each of the seven commands begins with the check of its unit. -/
theorem uninitialisedUnitIsRefused : Obligations.UninitialisedUnitIsRefused := by
  intro s i
  refine ⟨fun hi hne hv => ?sensor, fun hi hne hv => ?memory⟩
  case sensor =>
    cases i with
    | tsInit a => exact absurd rfl (hne a)
    | tsWrcfg | tsTrig | tsRdraw | tsConv => exact congrArg _ (requireTs_invalid _ hv)
    | memInit | memWrseq | memRdat | memCursor => cases hi
  case memory =>
    cases i with
    | memInit a => exact absurd rfl (hne a)
    | memWrseq | memRdat | memCursor => exact congrArg _ (requireMem_invalid _ hv)
    | tsInit | tsWrcfg | tsTrig | tsRdraw | tsConv => cases hi

end Sys2Proof.Machine
end
